-- ==== Sys2Proof/Word.lean ====
section
/-! DEFINITION. The word types of the block (00_scope.md R12, R13, 20_memory.md R81): a word is 32 bits, an
opcode 8 bits, a physical address PA_BITS = 24 bits. -/
namespace Sys2Proof

/-- One byte of memory, and an opcode (R12, R15). -/
abbrev Byte := BitVec 8

/-- A 32-bit word (R12). -/
abbrev Word := BitVec 32

/-- A physical byte address, PA_BITS = 24 bits wide (R10, R81). -/
abbrev Addr := BitVec 24

/-- A hazard mask in the layout of 10_state.md R50. -/
abbrev HazardMask := BitVec 32

/-- A natural number as a 32-bit word (the entries of a fault record's info, R31; log 12). -/
def wordOfNat (n : Nat) : Word := BitVec.ofNat 32 n

end Sys2Proof
end

