-- ==== Sys2Proof/Config.lean ====
section
/-! DEFINITION. What an implementation fixes (00_scope.md R10) as plain data, and the free values of the model as
opaque constants: nothing in Lean evaluates them or proves a value of them. -/
namespace Sys2Proof

/-- A command: a list of one or more words (00_scope.md R15), word 0 apart so that no command is empty. -/
structure Cmd where
  /-- word 0: the opcode in bits 31:24 and 24 argument bits (30_encoding.md R110) -/
  w0   : Word
  /-- words 1 .. n-1 -/
  rest : List Word
deriving DecidableEq, Repr, Inhabited

/-- The four agents, by their names (00_scope.md R5). -/
inductive Agent where
  | producer
  | consumer
  | rasterizer
  | fenceIrq
deriving DecidableEq, Repr, Inhabited

/-- What a client handler returns: `ok(out, st')` or `fail(info)` (43_consumer_dispatch.md R275). -/
inductive HandlerResult where
  | ok   (out : List Cmd) (st : List Word)
  | fail (info : List Word)
deriving DecidableEq, Repr, Inhabited

/-- One known value of a client handler: on opcode `op`, command latch `cmd` and state `st` it returns `result`. -/
structure HandlerRow where
  op     : Byte
  cmd    : Cmd
  st     : List Word
  result : HandlerResult
deriving DecidableEq, Repr, Inhabited

/-- A client overlay's handler `HANDLER[id]` as plain data (R275; log 6): the functions it gives a meaning, the values
that are known, and the name of the free function that answers everywhere else. -/
structure Handler where
  /-- names the free function of `Config.handler` -/
  code     : Nat
  /-- bit f is set iff the handler gives function f a meaning (`desc_ok` of 41_overlay_registry.md R190) -/
  meanings : BitVec 16
  rows     : List HandlerRow
deriving DecidableEq, Repr, Inhabited

/-- One unimplemented rasterizer feature: a command of opcode `op` with exactly as many words as the pattern has
(mask, value) pairs, each word agreeing with the pair at its place. The predicate UNSUPPORTED of R10 is a list of these
(log 8). -/
structure FeaturePattern where
  op    : Byte
  words : List (Word × Word)
deriving DecidableEq, Repr, Inhabited

/-- The implementation parameters of 00_scope.md R10. No step changes them (10_state.md R59; log 1). -/
structure Params where
  /-- CAP: words of a ring buffer available to commands -/
  cap         : Nat
  /-- MAX_CMD: the largest command, in words -/
  maxCmd      : Nat
  /-- BUF_BASE[0] and BUF_BASE[1]: byte address of word 0 of each buffer -/
  bufBase0    : Addr
  bufBase1    : Addr
  /-- RZQ_CAP: depth of the rasterizer input queue, in commands -/
  rzqCap      : Nat
  /-- IMG_ALIGN: required byte alignment of image addresses -/
  imgAlign    : Nat
  /-- VALID_IMG_FMT: bit f is set iff the 5-bit format f is valid (log 8) -/
  validImgFmt : BitVec 32
  /-- UNSUPPORTED: a command is unsupported iff one of these patterns describes it (log 8) -/
  unsupported : List FeaturePattern
deriving DecidableEq, Repr

/-- SENTINEL = CAP - MAX_CMD (10_state.md R37). -/
def Params.sentinel (p : Params) : Nat := p.cap - p.maxCmd

/-- The constraints of the table of R10. -/
def Params.valid (p : Params) : Bool :=
  decide (4 ≤ p.maxCmd) && decide (p.maxCmd + 1 ≤ p.cap)
    && decide (p.bufBase0.toNat % 8 = 0) && decide (p.bufBase1.toNat % 8 = 0)
    && decide (p.bufBase0.toNat + 4 * (p.cap + 1) ≤ 2 ^ 24)
    && decide (p.bufBase1.toNat + 4 * (p.cap + 1) ≤ 2 ^ 24)
    && (decide (p.bufBase0.toNat + 4 * (p.cap + 1) ≤ p.bufBase1.toNat)
        || decide (p.bufBase1.toNat + 4 * (p.cap + 1) ≤ p.bufBase0.toNat))
    && decide (2 ≤ p.rzqCap)
    && decide (p.imgAlign ≠ 0) && decide (2 ^ p.imgAlign.log2 = p.imgAlign)

/-- The test defaults of R10, which State.reset holds (DESIGN CHOICE, log 1: "none is fixed by the source"). -/
def defaultParams : Params where
  cap := 8
  maxCmd := 4
  bufBase0 := 0x001000#24
  bufBase1 := 0x002000#24
  rzqCap := 8
  imgAlign := 8
  validImgFmt := BitVec.allOnes 32
  unsupported := []

/-- FREE VALUE (log 6): what the client handler named by the first argument returns for an opcode, a command latch and
a state on which no row of the handler gives its value. -/
opaque Config.handler : Nat → Byte → Cmd → List Word → HandlerResult

/-- FREE VALUE (log 2, log 20): the turns of the n-th round of the schedule that follows State.turns, in order; an agent
it leaves out has its turn at the end of the round. -/
opaque Config.round : Nat → List Agent

/-- FREE VALUE (log 10): which of several missing words PUBLISH_INCOMPLETE records, applied to State.tick. -/
opaque Config.freePick : Nat → Nat

end Sys2Proof
end

