-- ==== Sys2Proof/Syntax.lean ====
section
/-! DEFINITION. The commands of the block (30_encoding.md R113 to R117), one constructor for each row of
spec/opcode_table.json. A constructor's operands are the fields of R117 from the highest bit of word 0 down, word by
word; the bits the spec marks opaque, ignored or zero are operands too, because pass-through forwards every bit
unchanged (R122, 44_rasterizer_commands.md R300). -/
namespace Sys2Proof

/-- One command of the ring (R110). -/
inductive Instr where
  /-- TERMINATOR, opcode 0x00 (R262) -/
  | terminator (ignored : BitVec 24)
  /-- NOOP, opcode 0x01 (R263) -/
  | noop (ignored : BitVec 24)
  /-- JUMP, opcode 0x02 (R264) -/
  | jump (target : BitVec 24)
  /-- SET_LOOKUP_ADDRESS, opcode 0x10 (R370) -/
  | setLookupAddress (ignored0 : BitVec 24) (index ignored1 : BitVec 4) (addr : BitVec 24)
  /-- SET_COLOR_IMAGE_DYN, opcode 0x11 (R372) -/
  | setColorImageDyn (format : BitVec 5) (opaque0 : BitVec 9) (strideUnits : BitVec 10) (index ignored1 : BitVec 4) (offset : BitVec 24)
  /-- SET_Z_IMAGE_DYN, opcode 0x12 (R373) -/
  | setZImageDyn (opaque0 : BitVec 24) (index ignored1 : BitVec 4) (offset : BitVec 24)
  /-- SET_TEXTURE_IMAGE_DYN, opcode 0x13 (R374) -/
  | setTextureImageDyn (format : BitVec 5) (opaque0 : BitVec 9) (strideUnits : BitVec 10) (index ignored1 : BitVec 4) (offset : BitVec 24)
  /-- MODIFY_OTHER_MODES, opcode 0x14 (R376) -/
  | modifyOtherModes (ignored0 : BitVec 23) (half : BitVec 1) (mask value : BitVec 32)
  /-- TEXTURE_RECTANGLE, opcode 0x24 (R301) -/
  | textureRectangle (xl yl : BitVec 12) (opaque1 : BitVec 5) (tile : BitVec 3) (xh yh : BitVec 12) (s t dsdx dtdy : BitVec 16)
  /-- TEXTURE_RECTANGLE_FLIP, opcode 0x25 (R302) -/
  | textureRectangleFlip (xl yl : BitVec 12) (opaque1 : BitVec 5) (tile : BitVec 3) (xh yh : BitVec 12) (s t dsdx dtdy : BitVec 16)
  /-- SYNC_LOAD, opcode 0x26 (R304) -/
  | syncLoad (zero0 : BitVec 24) (zero1 : BitVec 32)
  /-- SYNC_PIPE, opcode 0x27 (R305) -/
  | syncPipe (zero0 : BitVec 24) (zero1 : BitVec 32)
  /-- SYNC_TILE, opcode 0x28 (R306) -/
  | syncTile (zero0 : BitVec 24) (zero1 : BitVec 32)
  /-- SYNC_FULL, opcode 0x29 (R307) -/
  | syncFull (zero0 : BitVec 24) (zero1 : BitVec 32)
  /-- SET_KEY_GB, opcode 0x2A (R310) -/
  | setKeyGb (opaque0 : BitVec 24) (opaque1 : BitVec 32)
  /-- SET_KEY_R, opcode 0x2B (R311) -/
  | setKeyR (opaque0 : BitVec 24) (opaque1 : BitVec 32)
  /-- SET_CONVERT, opcode 0x2C (R312) -/
  | setConvert (opaque0 : BitVec 24) (opaque1 : BitVec 32)
  /-- SET_SCISSOR, opcode 0x2D (R313) -/
  | setScissor (x0 y0 : BitVec 12) (opaque1 : BitVec 8) (x1 y1 : BitVec 12)
  /-- SET_PRIM_DEPTH, opcode 0x2E (R314) -/
  | setPrimDepth (opaque0 : BitVec 24) (opaque1 : BitVec 32)
  /-- SET_OTHER_MODES, opcode 0x2F (R315) -/
  | setOtherModes (omHi : BitVec 24) (omLo : BitVec 32)
  /-- LOAD_TLUT, opcode 0x30 (R320) -/
  | loadTlut (opaque0 : BitVec 24) (opaque1 : BitVec 5) (tile : BitVec 3) (opaque2 : BitVec 24)
  /-- SET_TILE_SIZE, opcode 0x32 (R321) -/
  | setTileSize (opaque0 : BitVec 24) (opaque1 : BitVec 5) (tile : BitVec 3) (opaque2 : BitVec 24)
  /-- LOAD_BLOCK, opcode 0x33 (R322) -/
  | loadBlock (opaque0 : BitVec 24) (opaque1 : BitVec 5) (tile : BitVec 3) (opaque2 : BitVec 24)
  /-- LOAD_TILE, opcode 0x34 (R323) -/
  | loadTile (opaque0 : BitVec 24) (opaque1 : BitVec 5) (tile : BitVec 3) (opaque2 : BitVec 24)
  /-- SET_TILE, opcode 0x35 (R324) -/
  | setTile (opaque0 : BitVec 24) (opaque1 : BitVec 5) (tile : BitVec 3) (opaque2 : BitVec 24)
  /-- FILL_RECTANGLE, opcode 0x36 (R330) -/
  | fillRectangle (x1 y1 : BitVec 12) (opaque1 : BitVec 8) (x0 y0 : BitVec 12)
  /-- SET_FILL_COLOR, opcode 0x37 (R331) -/
  | setFillColor (opaque0 : BitVec 24) (color : BitVec 32)
  /-- SET_FOG_COLOR, opcode 0x38 (R332) -/
  | setFogColor (opaque0 : BitVec 24) (opaque1 : BitVec 32)
  /-- SET_BLEND_COLOR, opcode 0x39 (R333) -/
  | setBlendColor (opaque0 : BitVec 24) (opaque1 : BitVec 32)
  /-- SET_PRIM_COLOR, opcode 0x3A (R334) -/
  | setPrimColor (opaque0 : BitVec 24) (opaque1 : BitVec 32)
  /-- SET_ENV_COLOR, opcode 0x3B (R335) -/
  | setEnvColor (opaque0 : BitVec 24) (opaque1 : BitVec 32)
  /-- SET_COMBINE, opcode 0x3C (R336) -/
  | setCombine (opaque0 : BitVec 24) (opaque1 : BitVec 32)
  /-- SET_TEXTURE_IMAGE, opcode 0x3D (R340) -/
  | setTextureImage (format : BitVec 5) (opaque0 : BitVec 9) (strideUnits : BitVec 10) (zero1 : BitVec 8) (addr : BitVec 24)
  /-- SET_Z_IMAGE, opcode 0x3E (R341) -/
  | setZImage (opaque0 : BitVec 24) (zero1 : BitVec 8) (addr : BitVec 24)
  /-- SET_COLOR_IMAGE, opcode 0x3F (R342) -/
  | setColorImage (format : BitVec 5) (opaque0 : BitVec 9) (strideUnits : BitVec 10) (zero1 : BitVec 8) (addr : BitVec 24)
  /-- CLIENT_SEL4: function fn of the client overlay bound to selector 4 (R275) -/
  | clientSel4 (fn : BitVec 4) (a24 : BitVec 24) (args : List Word)
  /-- CLIENT_SEL5: function fn of the client overlay bound to selector 5 (R275) -/
  | clientSel5 (fn : BitVec 4) (a24 : BitVec 24) (args : List Word)
  /-- CLIENT_SEL6: function fn of the client overlay bound to selector 6 (R275) -/
  | clientSel6 (fn : BitVec 4) (a24 : BitVec 24) (args : List Word)
  /-- CLIENT_SEL7: function fn of the client overlay bound to selector 7 (R275) -/
  | clientSel7 (fn : BitVec 4) (a24 : BitVec 24) (args : List Word)
  /-- CLIENT_SEL8: function fn of the client overlay bound to selector 8 (R275) -/
  | clientSel8 (fn : BitVec 4) (a24 : BitVec 24) (args : List Word)
  /-- CLIENT_SEL9: function fn of the client overlay bound to selector 9 (R275) -/
  | clientSel9 (fn : BitVec 4) (a24 : BitVec 24) (args : List Word)
  /-- CLIENT_SEL10: function fn of the client overlay bound to selector 10 (R275) -/
  | clientSel10 (fn : BitVec 4) (a24 : BitVec 24) (args : List Word)
  /-- CLIENT_SEL11: function fn of the client overlay bound to selector 11 (R275) -/
  | clientSel11 (fn : BitVec 4) (a24 : BitVec 24) (args : List Word)
  /-- CLIENT_SEL12: function fn of the client overlay bound to selector 12 (R275) -/
  | clientSel12 (fn : BitVec 4) (a24 : BitVec 24) (args : List Word)
  /-- CLIENT_SEL13: function fn of the client overlay bound to selector 13 (R275) -/
  | clientSel13 (fn : BitVec 4) (a24 : BitVec 24) (args : List Word)
  /-- CLIENT_SEL14: function fn of the client overlay bound to selector 14 (R275) -/
  | clientSel14 (fn : BitVec 4) (a24 : BitVec 24) (args : List Word)
  /-- CLIENT_SEL15: function fn of the client overlay bound to selector 15 (R275) -/
  | clientSel15 (fn : BitVec 4) (a24 : BitVec 24) (args : List Word)
deriving DecidableEq, Repr

end Sys2Proof
end

