-- ==== Sys2Proof/Decode.lean ====
section
/-! DEFINITION. Bytes, words and commands (20_memory.md R80, 30_encoding.md R110 to R117): the decoder, total on any
bytes and rejecting by name, and after it the encoder, both written from the field layouts of R117. -/
namespace Sys2Proof

/-- `w[lo+len-1 : lo]`, the field of `len` bits at offset `lo` (00_scope.md R12). -/
def field (lo len : Nat) {n : Nat} (w : BitVec n) : BitVec len := w.extractLsb' lo len

/-- The four bytes of a word, the byte at the lowest address first: bits 31:24 (R80). -/
def bytesOfWord (w : Word) : List Byte := [field 24 8 w, field 16 8 w, field 8 8 w, field 0 8 w]

/-- The word whose bytes, from the lowest address up, are the four given (R80). -/
def wordOfBytes (b0 b1 b2 b3 : Byte) : Word := b0 ++ b1 ++ b2 ++ b3

/-- The first word of a byte string and what follows it. -/
def takeWord : List Byte → Option (Word × List Byte)
  | b0 :: b1 :: b2 :: b3 :: bs => some (wordOfBytes b0 b1 b2 b3, bs)
  | _ => none

/-- The first `n` words of a byte string and what follows them. -/
def takeWords : Nat → List Byte → Option (List Word × List Byte)
  | 0, bs => some ([], bs)
  | n + 1, bs =>
    match takeWord bs with
    | none => none
    | some (w, bs') =>
      match takeWords n bs' with
      | none => none
      | some (ws, bs'') => some (w :: ws, bs'')

/-- The size column of R114 to R116, by the whole opcode; invalid rows have size 0 (R112). -/
def builtinSize (op : Byte) : Nat :=
  match op.toNat with
  | 0x00 => 1
  | 0x01 => 1
  | 0x02 => 1
  | 0x10 => 2
  | 0x11 => 2
  | 0x12 => 2
  | 0x13 => 2
  | 0x14 => 3
  | 0x24 => 4
  | 0x25 => 4
  | 0x26 => 2
  | 0x27 => 2
  | 0x28 => 2
  | 0x29 => 2
  | 0x2A => 2
  | 0x2B => 2
  | 0x2C => 2
  | 0x2D => 2
  | 0x2E => 2
  | 0x2F => 2
  | 0x30 => 2
  | 0x32 => 2
  | 0x33 => 2
  | 0x34 => 2
  | 0x35 => 2
  | 0x36 => 2
  | 0x37 => 2
  | 0x38 => 2
  | 0x39 => 2
  | 0x3A => 2
  | 0x3B => 2
  | 0x3C => 2
  | 0x3D => 2
  | 0x3E => 2
  | 0x3F => 2
  | _ => 0

/-- The opcode of an instruction (R113 to R116). -/
def Instr.opcode : Instr → Byte
  | .terminator _ => 0x00#8
  | .noop _ => 0x01#8
  | .jump _ => 0x02#8
  | .setLookupAddress _ _ _ _ => 0x10#8
  | .setColorImageDyn _ _ _ _ _ _ => 0x11#8
  | .setZImageDyn _ _ _ _ => 0x12#8
  | .setTextureImageDyn _ _ _ _ _ _ => 0x13#8
  | .modifyOtherModes _ _ _ _ => 0x14#8
  | .textureRectangle _ _ _ _ _ _ _ _ _ _ => 0x24#8
  | .textureRectangleFlip _ _ _ _ _ _ _ _ _ _ => 0x25#8
  | .syncLoad _ _ => 0x26#8
  | .syncPipe _ _ => 0x27#8
  | .syncTile _ _ => 0x28#8
  | .syncFull _ _ => 0x29#8
  | .setKeyGb _ _ => 0x2A#8
  | .setKeyR _ _ => 0x2B#8
  | .setConvert _ _ => 0x2C#8
  | .setScissor _ _ _ _ _ => 0x2D#8
  | .setPrimDepth _ _ => 0x2E#8
  | .setOtherModes _ _ => 0x2F#8
  | .loadTlut _ _ _ _ => 0x30#8
  | .setTileSize _ _ _ _ => 0x32#8
  | .loadBlock _ _ _ _ => 0x33#8
  | .loadTile _ _ _ _ => 0x34#8
  | .setTile _ _ _ _ => 0x35#8
  | .fillRectangle _ _ _ _ _ => 0x36#8
  | .setFillColor _ _ => 0x37#8
  | .setFogColor _ _ => 0x38#8
  | .setBlendColor _ _ => 0x39#8
  | .setPrimColor _ _ => 0x3A#8
  | .setEnvColor _ _ => 0x3B#8
  | .setCombine _ _ => 0x3C#8
  | .setTextureImage _ _ _ _ _ => 0x3D#8
  | .setZImage _ _ _ => 0x3E#8
  | .setColorImage _ _ _ _ _ => 0x3F#8
  | .clientSel4 fn _ _ => 0x4#4 ++ fn
  | .clientSel5 fn _ _ => 0x5#4 ++ fn
  | .clientSel6 fn _ _ => 0x6#4 ++ fn
  | .clientSel7 fn _ _ => 0x7#4 ++ fn
  | .clientSel8 fn _ _ => 0x8#4 ++ fn
  | .clientSel9 fn _ _ => 0x9#4 ++ fn
  | .clientSel10 fn _ _ => 0xA#4 ++ fn
  | .clientSel11 fn _ _ => 0xB#4 ++ fn
  | .clientSel12 fn _ _ => 0xC#4 ++ fn
  | .clientSel13 fn _ _ => 0xD#4 ++ fn
  | .clientSel14 fn _ _ => 0xE#4 ++ fn
  | .clientSel15 fn _ _ => 0xF#4 ++ fn

/-- The words an instruction term occupies: its format's words (R111), or word 0 and the arguments of a client
command. -/
def Instr.length : Instr → Nat
  | .terminator _ => 1
  | .noop _ => 1
  | .jump _ => 1
  | .setLookupAddress _ _ _ _ => 2
  | .setColorImageDyn _ _ _ _ _ _ => 2
  | .setZImageDyn _ _ _ _ => 2
  | .setTextureImageDyn _ _ _ _ _ _ => 2
  | .modifyOtherModes _ _ _ _ => 3
  | .textureRectangle _ _ _ _ _ _ _ _ _ _ => 4
  | .textureRectangleFlip _ _ _ _ _ _ _ _ _ _ => 4
  | .syncLoad _ _ => 2
  | .syncPipe _ _ => 2
  | .syncTile _ _ => 2
  | .syncFull _ _ => 2
  | .setKeyGb _ _ => 2
  | .setKeyR _ _ => 2
  | .setConvert _ _ => 2
  | .setScissor _ _ _ _ _ => 2
  | .setPrimDepth _ _ => 2
  | .setOtherModes _ _ => 2
  | .loadTlut _ _ _ _ => 2
  | .setTileSize _ _ _ _ => 2
  | .loadBlock _ _ _ _ => 2
  | .loadTile _ _ _ _ => 2
  | .setTile _ _ _ _ => 2
  | .fillRectangle _ _ _ _ _ => 2
  | .setFillColor _ _ => 2
  | .setFogColor _ _ => 2
  | .setBlendColor _ _ => 2
  | .setPrimColor _ _ => 2
  | .setEnvColor _ _ => 2
  | .setCombine _ _ => 2
  | .setTextureImage _ _ _ _ _ => 2
  | .setZImage _ _ _ => 2
  | .setColorImage _ _ _ _ _ => 2
  | .clientSel4 _ _ args => args.length + 1
  | .clientSel5 _ _ args => args.length + 1
  | .clientSel6 _ _ args => args.length + 1
  | .clientSel7 _ _ args => args.length + 1
  | .clientSel8 _ _ args => args.length + 1
  | .clientSel9 _ _ args => args.length + 1
  | .clientSel10 _ _ args => args.length + 1
  | .clientSel11 _ _ args => args.length + 1
  | .clientSel12 _ _ args => args.length + 1
  | .clientSel13 _ _ args => args.length + 1
  | .clientSel14 _ _ args => args.length + 1
  | .clientSel15 _ _ args => args.length + 1

/-- Why a byte string is no command, by name. -/
inductive Reject where
  /-- fewer bytes than the opcode's size (R112) -/
  | truncated
  /-- an opcode of size 0 (R120) -/
  | invalidOpcode (op : Byte)
  /-- an opcode of an unbound selector (R112) -/
  | unboundSelector (op : Byte)
deriving DecidableEq, Repr

/-- Exactly one argument word. -/
def withOne (args : List Word) (f : Word → Instr) : Option Instr :=
  match args with
  | [w1] => some (f w1)
  | _ => none

/-- Exactly two argument words. -/
def withTwo (args : List Word) (f : Word → Word → Instr) : Option Instr :=
  match args with
  | [w1, w2] => some (f w1 w2)
  | _ => none

/-- Exactly three argument words. -/
def withThree (args : List Word) (f : Word → Word → Word → Instr) : Option Instr :=
  match args with
  | [w1, w2, w3] => some (f w1 w2 w3)
  | _ => none

/-- No argument word. -/
def withNone (args : List Word) (i : Instr) : Option Instr :=
  match args with
  | [] => some i
  | _ => none

/-- The client command of a selector 4 to 15 (R123). -/
def clientInstr (sel : Nat) (fn : BitVec 4) (a24 : BitVec 24) (args : List Word) : Option Instr :=
  match sel with
  | 4 => some (.clientSel4 fn a24 args)
  | 5 => some (.clientSel5 fn a24 args)
  | 6 => some (.clientSel6 fn a24 args)
  | 7 => some (.clientSel7 fn a24 args)
  | 8 => some (.clientSel8 fn a24 args)
  | 9 => some (.clientSel9 fn a24 args)
  | 10 => some (.clientSel10 fn a24 args)
  | 11 => some (.clientSel11 fn a24 args)
  | 12 => some (.clientSel12 fn a24 args)
  | 13 => some (.clientSel13 fn a24 args)
  | 14 => some (.clientSel14 fn a24 args)
  | 15 => some (.clientSel15 fn a24 args)
  | _ => none

/-- The row of the opcode map for an opcode, on the 24 argument bits of word 0 and the argument words (R113 to R117). -/
def instrOf (op : Byte) (a24 : BitVec 24) (args : List Word) : Option Instr :=
  match op.toNat with
  | 0x00 => withNone args (.terminator a24)
  | 0x01 => withNone args (.noop a24)
  | 0x02 => withNone args (.jump a24)
  | 0x10 => withOne args fun w1 => .setLookupAddress a24 (field 28 4 w1) (field 24 4 w1) (field 0 24 w1)
  | 0x11 => withOne args fun w1 => .setColorImageDyn (field 19 5 a24) (field 10 9 a24) (field 0 10 a24) (field 28 4 w1) (field 24 4 w1) (field 0 24 w1)
  | 0x12 => withOne args fun w1 => .setZImageDyn a24 (field 28 4 w1) (field 24 4 w1) (field 0 24 w1)
  | 0x13 => withOne args fun w1 => .setTextureImageDyn (field 19 5 a24) (field 10 9 a24) (field 0 10 a24) (field 28 4 w1) (field 24 4 w1) (field 0 24 w1)
  | 0x14 => withTwo args fun w1 w2 => .modifyOtherModes (field 1 23 a24) (field 0 1 a24) w1 w2
  | 0x24 => withThree args fun w1 w2 w3 => .textureRectangle (field 12 12 a24) (field 0 12 a24) (field 27 5 w1) (field 24 3 w1) (field 12 12 w1) (field 0 12 w1) (field 16 16 w2) (field 0 16 w2) (field 16 16 w3) (field 0 16 w3)
  | 0x25 => withThree args fun w1 w2 w3 => .textureRectangleFlip (field 12 12 a24) (field 0 12 a24) (field 27 5 w1) (field 24 3 w1) (field 12 12 w1) (field 0 12 w1) (field 16 16 w2) (field 0 16 w2) (field 16 16 w3) (field 0 16 w3)
  | 0x26 => withOne args fun w1 => .syncLoad a24 w1
  | 0x27 => withOne args fun w1 => .syncPipe a24 w1
  | 0x28 => withOne args fun w1 => .syncTile a24 w1
  | 0x29 => withOne args fun w1 => .syncFull a24 w1
  | 0x2A => withOne args fun w1 => .setKeyGb a24 w1
  | 0x2B => withOne args fun w1 => .setKeyR a24 w1
  | 0x2C => withOne args fun w1 => .setConvert a24 w1
  | 0x2D => withOne args fun w1 => .setScissor (field 12 12 a24) (field 0 12 a24) (field 24 8 w1) (field 12 12 w1) (field 0 12 w1)
  | 0x2E => withOne args fun w1 => .setPrimDepth a24 w1
  | 0x2F => withOne args fun w1 => .setOtherModes a24 w1
  | 0x30 => withOne args fun w1 => .loadTlut a24 (field 27 5 w1) (field 24 3 w1) (field 0 24 w1)
  | 0x32 => withOne args fun w1 => .setTileSize a24 (field 27 5 w1) (field 24 3 w1) (field 0 24 w1)
  | 0x33 => withOne args fun w1 => .loadBlock a24 (field 27 5 w1) (field 24 3 w1) (field 0 24 w1)
  | 0x34 => withOne args fun w1 => .loadTile a24 (field 27 5 w1) (field 24 3 w1) (field 0 24 w1)
  | 0x35 => withOne args fun w1 => .setTile a24 (field 27 5 w1) (field 24 3 w1) (field 0 24 w1)
  | 0x36 => withOne args fun w1 => .fillRectangle (field 12 12 a24) (field 0 12 a24) (field 24 8 w1) (field 12 12 w1) (field 0 12 w1)
  | 0x37 => withOne args fun w1 => .setFillColor a24 w1
  | 0x38 => withOne args fun w1 => .setFogColor a24 w1
  | 0x39 => withOne args fun w1 => .setBlendColor a24 w1
  | 0x3A => withOne args fun w1 => .setPrimColor a24 w1
  | 0x3B => withOne args fun w1 => .setEnvColor a24 w1
  | 0x3C => withOne args fun w1 => .setCombine a24 w1
  | 0x3D => withOne args fun w1 => .setTextureImage (field 19 5 a24) (field 10 9 a24) (field 0 10 a24) (field 24 8 w1) (field 0 24 w1)
  | 0x3E => withOne args fun w1 => .setZImage a24 (field 24 8 w1) (field 0 24 w1)
  | 0x3F => withOne args fun w1 => .setColorImage (field 19 5 a24) (field 10 9 a24) (field 0 10 a24) (field 24 8 w1) (field 0 24 w1)
  | _ => clientInstr (op.toNat / 16) (field 0 4 op) a24 args

/-- Decodes the command at the head of a byte string (R112), the size of each opcode being given: `none` for an opcode
of an unbound selector, `some 0` for an invalid one. Answers the command and the bytes after it. -/
def decode (size : Byte → Option Nat) (bs : List Byte) : Except Reject (Instr × List Byte) :=
  match takeWord bs with
  | none => .error .truncated
  | some (w0, bs') =>
    match size (field 24 8 w0) with
    | none => .error (.unboundSelector (field 24 8 w0))
    | some 0 => .error (.invalidOpcode (field 24 8 w0))
    | some (n + 1) =>
      match takeWords n bs' with
      | none => .error .truncated
      | some (args, bs'') =>
        match instrOf (field 24 8 w0) (field 0 24 w0) args with
        | none => .error (.invalidOpcode (field 24 8 w0))
        | some i => .ok (i, bs'')

/-- The words of a command, as the encoding tables of R114 to R117 lay them out. -/
def encodeCmd : Instr → Cmd
  | .terminator ignored => ⟨0x00#8 ++ ignored, []⟩
  | .noop ignored => ⟨0x01#8 ++ ignored, []⟩
  | .jump target => ⟨0x02#8 ++ target, []⟩
  | .setLookupAddress ignored0 index ignored1 addr => ⟨0x10#8 ++ ignored0, [index ++ ignored1 ++ addr]⟩
  | .setColorImageDyn format opaque0 strideUnits index ignored1 offset => ⟨0x11#8 ++ format ++ opaque0 ++ strideUnits, [index ++ ignored1 ++ offset]⟩
  | .setZImageDyn opaque0 index ignored1 offset => ⟨0x12#8 ++ opaque0, [index ++ ignored1 ++ offset]⟩
  | .setTextureImageDyn format opaque0 strideUnits index ignored1 offset => ⟨0x13#8 ++ format ++ opaque0 ++ strideUnits, [index ++ ignored1 ++ offset]⟩
  | .modifyOtherModes ignored0 half mask value => ⟨0x14#8 ++ ignored0 ++ half, [mask, value]⟩
  | .textureRectangle xl yl opaque1 tile xh yh s t dsdx dtdy => ⟨0x24#8 ++ xl ++ yl, [opaque1 ++ tile ++ xh ++ yh, s ++ t, dsdx ++ dtdy]⟩
  | .textureRectangleFlip xl yl opaque1 tile xh yh s t dsdx dtdy => ⟨0x25#8 ++ xl ++ yl, [opaque1 ++ tile ++ xh ++ yh, s ++ t, dsdx ++ dtdy]⟩
  | .syncLoad zero0 zero1 => ⟨0x26#8 ++ zero0, [zero1]⟩
  | .syncPipe zero0 zero1 => ⟨0x27#8 ++ zero0, [zero1]⟩
  | .syncTile zero0 zero1 => ⟨0x28#8 ++ zero0, [zero1]⟩
  | .syncFull zero0 zero1 => ⟨0x29#8 ++ zero0, [zero1]⟩
  | .setKeyGb opaque0 opaque1 => ⟨0x2A#8 ++ opaque0, [opaque1]⟩
  | .setKeyR opaque0 opaque1 => ⟨0x2B#8 ++ opaque0, [opaque1]⟩
  | .setConvert opaque0 opaque1 => ⟨0x2C#8 ++ opaque0, [opaque1]⟩
  | .setScissor x0 y0 opaque1 x1 y1 => ⟨0x2D#8 ++ x0 ++ y0, [opaque1 ++ x1 ++ y1]⟩
  | .setPrimDepth opaque0 opaque1 => ⟨0x2E#8 ++ opaque0, [opaque1]⟩
  | .setOtherModes omHi omLo => ⟨0x2F#8 ++ omHi, [omLo]⟩
  | .loadTlut opaque0 opaque1 tile opaque2 => ⟨0x30#8 ++ opaque0, [opaque1 ++ tile ++ opaque2]⟩
  | .setTileSize opaque0 opaque1 tile opaque2 => ⟨0x32#8 ++ opaque0, [opaque1 ++ tile ++ opaque2]⟩
  | .loadBlock opaque0 opaque1 tile opaque2 => ⟨0x33#8 ++ opaque0, [opaque1 ++ tile ++ opaque2]⟩
  | .loadTile opaque0 opaque1 tile opaque2 => ⟨0x34#8 ++ opaque0, [opaque1 ++ tile ++ opaque2]⟩
  | .setTile opaque0 opaque1 tile opaque2 => ⟨0x35#8 ++ opaque0, [opaque1 ++ tile ++ opaque2]⟩
  | .fillRectangle x1 y1 opaque1 x0 y0 => ⟨0x36#8 ++ x1 ++ y1, [opaque1 ++ x0 ++ y0]⟩
  | .setFillColor opaque0 color => ⟨0x37#8 ++ opaque0, [color]⟩
  | .setFogColor opaque0 opaque1 => ⟨0x38#8 ++ opaque0, [opaque1]⟩
  | .setBlendColor opaque0 opaque1 => ⟨0x39#8 ++ opaque0, [opaque1]⟩
  | .setPrimColor opaque0 opaque1 => ⟨0x3A#8 ++ opaque0, [opaque1]⟩
  | .setEnvColor opaque0 opaque1 => ⟨0x3B#8 ++ opaque0, [opaque1]⟩
  | .setCombine opaque0 opaque1 => ⟨0x3C#8 ++ opaque0, [opaque1]⟩
  | .setTextureImage format opaque0 strideUnits zero1 addr => ⟨0x3D#8 ++ format ++ opaque0 ++ strideUnits, [zero1 ++ addr]⟩
  | .setZImage opaque0 zero1 addr => ⟨0x3E#8 ++ opaque0, [zero1 ++ addr]⟩
  | .setColorImage format opaque0 strideUnits zero1 addr => ⟨0x3F#8 ++ format ++ opaque0 ++ strideUnits, [zero1 ++ addr]⟩
  | .clientSel4 fn a24 args => ⟨0x4#4 ++ fn ++ a24, args⟩
  | .clientSel5 fn a24 args => ⟨0x5#4 ++ fn ++ a24, args⟩
  | .clientSel6 fn a24 args => ⟨0x6#4 ++ fn ++ a24, args⟩
  | .clientSel7 fn a24 args => ⟨0x7#4 ++ fn ++ a24, args⟩
  | .clientSel8 fn a24 args => ⟨0x8#4 ++ fn ++ a24, args⟩
  | .clientSel9 fn a24 args => ⟨0x9#4 ++ fn ++ a24, args⟩
  | .clientSel10 fn a24 args => ⟨0xA#4 ++ fn ++ a24, args⟩
  | .clientSel11 fn a24 args => ⟨0xB#4 ++ fn ++ a24, args⟩
  | .clientSel12 fn a24 args => ⟨0xC#4 ++ fn ++ a24, args⟩
  | .clientSel13 fn a24 args => ⟨0xD#4 ++ fn ++ a24, args⟩
  | .clientSel14 fn a24 args => ⟨0xE#4 ++ fn ++ a24, args⟩
  | .clientSel15 fn a24 args => ⟨0xF#4 ++ fn ++ a24, args⟩

/-- All the words of a command (R15). -/
def Cmd.words (c : Cmd) : List Word := c.w0 :: c.rest

/-- The size of a command in words, word 0 counted (R110). -/
def Cmd.size (c : Cmd) : Nat := c.rest.length + 1

/-- `op(cmd) = cmd[0][31:24]` (R15). -/
def Cmd.op (c : Cmd) : Byte := field 24 8 c.w0

/-- `a24(cmd) = cmd[0][23:0]` (R15). -/
def Cmd.a24 (c : Cmd) : BitVec 24 := field 0 24 c.w0

/-- The encoder: the words of a well-formed instruction. -/
def encode (i : Instr) : List Word := (encodeCmd i).words

/-- The bytes of a list of words, as memory holds them (R80). -/
def bytesOfWords : List Word → List Byte
  | [] => []
  | w :: ws => bytesOfWord w ++ bytesOfWords ws

/-- The bytes of an instruction. -/
def encodeBytes (i : Instr) : List Byte := bytesOfWords (encode i)

/-- The size table of spec/opcode_table.json: the built-in sizes, and one word for every client function, whose real
size is its overlay's (format FC, R111; log 25). -/
def tableSize (op : Byte) : Option Nat :=
  if op.toNat < 0x40 then some (builtinSize op) else some 1

/-- Word `k` of a table row whose bits are `w`: bits 32k+31 .. 32k. -/
def tableWord (w k : Nat) : Word := BitVec.ofNat 32 (w >>> (32 * k))

/-- The first `n` words of a table row, from word `k` on. -/
def tableWords (w : Nat) : Nat → Nat → List Word
  | _, 0 => []
  | k, n + 1 => tableWord w k :: tableWords w (k + 1) n

/-- The instruction the decoder reads from a table row whose `nbits` bits are `w`, every bit above them 0, laid out as
memory holds it: four words, the longest built-in command, each big-endian. -/
def decodeTableWord (nbits w : Nat) : Option Instr :=
  match decode tableSize (bytesOfWords (tableWords (w % 2 ^ nbits) 0 4)) with
  | .ok (i, _) => some i
  | .error _ => none

end Sys2Proof
end

