-- ==== Sys2Proof/Machine/Port.lean ====
section
/-! DEFINITION. The producer's port operations (30_encoding.md R125) as plain data. They have no wire encoding (D44).
An operand whose width the spec does not give is a 32-bit word (log 9). -/
namespace Sys2Proof.Machine

open Sys2Proof

/-- The four write shapes (42_encoder_autosync.md R212). -/
inductive Shape where
  | plain
  | syncUse
  | syncChange
  | auto
deriving DecidableEq, Repr

/-- The `kind` of set_image_dyn (R248). -/
inductive ImageKind where
  | color
  | z
  | texture
deriving DecidableEq, Repr

/-- The descriptor a `register` names (41_overlay_registry.md R190), before its addresses are checked. -/
structure DescriptorArg where
  codeAddr  : Word
  dataAddr  : Word
  stateAddr : Word
  codeSize  : Word
  dataSize  : Word
  /-- cmd_size[f], f in 0..15 -/
  cmdSize   : Vector Nat 16
  handler   : Handler
  initState : List Word
deriving DecidableEq, Repr

/-- A port operation, with its operands (R125). -/
inductive PortOp where
  /-- 40_ring_buffer.md R150 -/
  | init
  /-- R152 -/
  | close
  /-- 41_overlay_registry.md R190; `none` is AUTO -/
  | register (desc : DescriptorArg) (id : Option Word)
  /-- R192 -/
  | bind (id sel : Word)
  /-- R151 -/
  | start
  /-- R155 -/
  | reserve (n : Word)
  /-- R156 -/
  | store (k w : Word)
  /-- R157 -/
  | publish
  /-- 42_encoder_autosync.md R210 -/
  | write (shape : Shape) (op : Byte) (a24 : BitVec 24) (args : List Word) (use change : HazardMask)
  /-- R230 -/
  | syncPipe
  /-- R230 -/
  | syncTile
  /-- R230 -/
  | syncLoad
  /-- R232; the callback and its argument are opaque names (log 23) -/
  | fence (cb arg : Nat)
  /-- R233 -/
  | wait
  /-- R236 -/
  | config (enable disable : Word)
  /-- R240 -/
  | scissor (x0 y0 x1 y1 : Word)
  /-- R241 -/
  | setColorImage (format strideUnits addr : Word)
  /-- R242 -/
  | fillRectangle (x0 y0 x1 y1 : Word)
  /-- R243 -/
  | setFillColor (color : Word)
  /-- R244 -/
  | setZImage (addr : Word)
  /-- R245 -/
  | setTextureImage (format strideUnits addr : Word)
  /-- R246 -/
  | setLookupAddress (index addr : Word)
  /-- R247 -/
  | modifyOtherModes (half mask value : Word)
  /-- R248 -/
  | setImageDyn (kind : ImageKind) (format strideUnits index offset : Word)
deriving DecidableEq, Repr

end Sys2Proof.Machine
end

