-- ==== Sys2Proof/Machine/State.lean ====
section
/-! DEFINITION. The state of the block (10_state.md R30 to R60) as plain data, the reasons a step can stop, and the
state after power-on reset. -/
namespace Sys2Proof.Machine

open Sys2Proof

/-- The three fault classes (60_exceptions.md R400). -/
inductive FaultClass where
  | contract
  | unsupported
  | undefined
deriving DecidableEq, Repr

/-- The fault codes (60_exceptions.md R402), by name; FaultCode.value gives the 8-bit codes. -/
inductive FaultCode where
  | notInit
  | alreadyInit
  | notStarted
  | afterStart
  | ovlTableFull
  | ovlDuplicate
  | ovlIdRange
  | selRange
  | selBound
  | ovlNotRegistered
  | badDescriptor
  | oversize
  | reservationState
  | publishIncomplete
  | reservedOpcode
  | sizeMismatch
  | badMask
  | misaligned
  | badEnum
  | unboundSelector
  | invalidOpcode
  | badJump
  | ringOverrun
  | flipInCopy
  | badForward
  | spuriousFence
  | handlerFault
  | unsupportedFeature
  | rzHazard
deriving DecidableEq, Repr

/-- The fault record `{cls, code, agent, info}` (10_state.md R31). -/
structure FaultRecord where
  cls   : FaultClass
  code  : FaultCode
  agent : Agent
  info  : List Word
deriving DecidableEq, Repr

/-- The lifecycle state (10_state.md R32). -/
inductive Lifecycle where
  | uninit
  | ready
  | started
deriving DecidableEq, Repr

/-- The index of a ring buffer, 0 or 1 (10_state.md R33, R40). -/
inductive RingBuf where
  | b0
  | b1
deriving DecidableEq, Repr

/-- The consumer's run state (10_state.md R39). -/
inductive ConsumerState where
  | run
  | idle
deriving DecidableEq, Repr

/-- A descriptor's size table (10_state.md R43, R44): the internal table of overlay 0, the whole-opcode table of
overlay 1, or a client's 16 entries. -/
inductive SizeTable where
  | internal
  | builtin
  | client (sizes : Vector Nat 16)
deriving DecidableEq, Repr

/-- A descriptor's handler (10_state.md R43, R44). -/
inductive HandlerRef where
  | internal
  | builtin
  | client (h : Handler)
deriving DecidableEq, Repr

/-- An overlay descriptor (10_state.md R43). The block never dereferences its locations (41_overlay_registry.md R196). -/
structure Descriptor where
  codeAddr  : Addr
  dataAddr  : Addr
  stateAddr : Addr
  codeSize  : Word
  dataSize  : Word
  cmdSize   : SizeTable
  handler   : HandlerRef
deriving DecidableEq, Repr

/-- An opaque callback and its opaque argument (10_state.md R53; log 23). -/
structure Callback where
  cb  : Nat
  arg : Nat
deriving DecidableEq, Repr

/-- A fence entry (10_state.md R53). -/
inductive FenceEntry where
  /-- `(cb, arg)`, a fence issued by `fence` -/
  | call (c : Callback)
  /-- `NOCB`, a fence issued by `wait` -/
  | noCb
deriving DecidableEq, Repr

/-- A producer micro-step (10_state.md R58). -/
inductive MicroStep where
  /-- `EMIT(words, clr, use)`; `clr` and `use` are for the reader only (42_encoder_autosync.md R214) -/
  | emit (c : Cmd) (clr use : HazardMask)
  | switch
  | waitf (k : Word)
  | drain
  | closeCommit
deriving DecidableEq, Repr

/-- What happens next: an agent's turn (00_scope.md R5), or a power-on reset from outside (70_reset_and_hazards.md R450;
log 21). -/
inductive Turn where
  | agent (a : Agent)
  | powerOn
deriving DecidableEq, Repr

/-- Physical memory: the bytes something has written, as (address, byte) pairs with addresses strictly rising. A byte
that is not listed has no value, and reading it faults (log 4). -/
abbrev Memory := List Host.Cell

/-- Why a step stops with no next state. -/
inductive Fault where
  /-- Raised by the turn of any agent when FAULT is set: "no agent has an enabled step" (60_exceptions.md R401). Safe:
  it is the spec's halt, with the record that caused it. -/
  | halted (r : FaultRecord)
  /-- Raised by CONSUMER and PRODUCER on an index past the guard word, where no ring word exists (20_memory.md R82).
  Safe: the block stops where the spec gives no access; no run that keeps the host duties reaches it (log 13). -/
  | ringIndex
  /-- Raised by CONSUMER and PRODUCER when a ring buffer lies outside the 2^24 bytes of memory (20_memory.md R81), which
  the constraint of 00_scope.md R10 excludes. Safe (log 13). -/
  | noMemory
  /-- Raised by CONSUMER on reading a byte that nothing has written (U1 of 93_implementation_defined.md). Safe: "no rule
  reads it before init clears it" (log 4). -/
  | unwritten
  /-- Raised by CONSUMER when a selector leads to an overlay that has no handler for the command, which `init`, `register`
  and `bind` never set up (41_overlay_registry.md R190, R192). Safe (log 14). -/
  | noHandler
deriving DecidableEq, Repr

/-- Why a step has no meaning. -/
inductive Refusal where
  /-- An instruction of the opcode table with no meaning yet: exec's arm refuses it by name. No arm does so now. Safe. -/
  | notModelled (mnemonic : String)
deriving DecidableEq, Repr

/-- The state of the block: every element of 10_state.md R31 to R58, ring memory (R30), and after them the model's own
fields. -/
structure State where
  /-- the implementation parameters (00_scope.md R10); no step changes them (log 1) -/
  params        : Params
  /-- R31 -/
  fault         : Option FaultRecord
  /-- R32 -/
  lc            : Lifecycle
  /-- R33 -/
  active        : RingBuf
  /-- R34 -/
  cursor        : Nat
  /-- R35 -/
  switchPending : Bool
  /-- R36 -/
  resN          : Nat
  /-- R36: STAGE[k], `none` for unwritten -/
  stage         : List (Option Word)
  /-- R30, 20_memory.md R81, R82 -/
  mem           : Memory
  /-- R38 -/
  sig           : Bool
  /-- R39 -/
  cstate        : ConsumerState
  /-- R40 -/
  cbuf          : RingBuf
  /-- R40 -/
  rpos          : Nat
  /-- R41 -/
  curOvl        : Fin 16
  /-- R43 -/
  ovlValid      : Vector Bool 16
  /-- R43 -/
  ovlDesc       : Vector Descriptor 16
  /-- R45: `none` is NONE -/
  selMap        : Vector (Option (Fin 16)) 16
  /-- R46 -/
  lookup        : Vector Addr 16
  /-- R47 -/
  omHi          : BitVec 24
  /-- R47 -/
  omLo          : Word
  /-- R48 (log 7) -/
  ovlState      : Vector (List Word) 16
  /-- R51 -/
  autosync      : HazardMask
  /-- R52 -/
  autosyncCfg   : BitVec 3
  /-- R53 -/
  fenceQ        : List FenceEntry
  /-- R53 -/
  fenceIssued   : Word
  /-- R53 -/
  fenceDone     : Word
  /-- R54 -/
  rzQ           : List Cmd
  /-- R55 -/
  rzInuse       : HazardMask
  /-- R56 -/
  irqPending    : Nat
  /-- R57 -/
  rzLog         : List Cmd
  /-- R57 -/
  cbLog         : List Callback
  /-- R58 -/
  pq            : List MicroStep
  /-- R58 (log 22) -/
  result        : Option Word
  /-- the model's own: the port operations the host has still to issue (log 3) -/
  hostOps       : List PortOp
  /-- the model's own: the turns still to come (log 2) -/
  turns         : List Turn
  /-- the model's own: the counter that free values are applied to (log 2) -/
  tick          : Nat
deriving DecidableEq, Repr

/-- The descriptor the model names where the spec gives none: all locations and sizes 0, no function with a meaning
(DESIGN CHOICE, log 5: OVL_DESC of an id that is not valid is unspecified, R43, U2). -/
def noDescriptor : Descriptor where
  codeAddr := 0
  dataAddr := 0
  stateAddr := 0
  codeSize := 0
  dataSize := 0
  cmdSize := .client (Vector.replicate 16 0)
  handler := .client ⟨0, 0, []⟩

/-- Power-on reset under given parameters: every element at its reset value in the table of 10_state.md R60. -/
def State.resetWith (p : Params) : State where
  params := p
  fault := none
  lc := .uninit
  active := .b0
  cursor := 0
  switchPending := false
  resN := 0
  stage := List.replicate p.maxCmd none
  mem := []
  sig := false
  cstate := .idle
  cbuf := .b0
  rpos := 0
  curOvl := 0
  ovlValid := Vector.replicate 16 false
  ovlDesc := Vector.replicate 16 noDescriptor
  selMap := Vector.replicate 16 none
  lookup := Vector.replicate 16 0
  omHi := 0
  omLo := 0
  ovlState := Vector.replicate 16 []
  autosync := 0
  autosyncCfg := 0b111
  fenceQ := []
  fenceIssued := 0
  fenceDone := 0
  rzQ := []
  rzInuse := 0
  irqPending := 0
  rzLog := []
  cbLog := []
  pq := []
  result := none
  hostOps := []
  turns := []
  tick := 0

/-- The machine right after power-on reset (70_reset_and_hazards.md R450), with the default parameters of 00_scope.md
R10 (log 1). -/
def State.reset : State := State.resetWith defaultParams

end Sys2Proof.Machine
end

