-- ==== Sys2Proof/Machine/Operands.lean ====
section
/-! DEFINITION. The operand fields the block reads (30_encoding.md R117 to R119) and its arithmetic on them
(00_scope.md R19). -/
namespace Sys2Proof.Machine

open Sys2Proof

/-- The other ring buffer, `1 - b`. -/
def RingBuf.other : RingBuf → RingBuf
  | .b0 => .b1
  | .b1 => .b0

/-- A buffer's index as a word of a fault record's info. -/
def RingBuf.index : RingBuf → Word
  | .b0 => 0
  | .b1 => 1

/-- `sel = op[7:4]` (R112). -/
def selOf (op : Byte) : Fin 16 := (field 4 4 op).toFin

/-- `fn = op[3:0]` (R112). -/
def fnOf (op : Byte) : Fin 16 := (field 0 4 op).toFin

/-- An opcode as a word of a fault record's info. -/
def opWord (op : Byte) : Word := op.setWidth 32

/-- Argument word 1 of a command; 0 where the command has none, which no command of a size of at least 2 does (log 15). -/
def argWord1 (c : Cmd) : Word := c.rest.headD 0

/-- The tile index `t = w1[26:24]` (R119). -/
def tileOf (c : Cmd) : BitVec 3 := field 24 3 (argWord1 c)

/-- The address or offset field `w1[23:0]` of an image command (R117). -/
def addrOf (c : Cmd) : Addr := field 0 24 (argWord1 c)

/-- The index field `w1[31:28]` of a dynamic command (R117). -/
def indexOf (c : Cmd) : BitVec 4 := field 28 4 (argWord1 c)

/-- The image format field `w0[23:19]` (R117). -/
def formatOf (c : Cmd) : BitVec 5 := field 19 5 c.w0

/-- The cycle type, bits 21:20 of OM_HI; 2 means COPY (43_consumer_dispatch.md R276). -/
def cycleType (omHi : BitVec 24) : BitVec 2 := field 20 2 omHi

/-- The cycle type COPY (R276). -/
def copyMode : BitVec 2 := 2

/-- `q(v) = (4 * v) & 0xFFF`, pixels to 1/4-pixel fixed point (42_encoder_autosync.md R240, R242). -/
def quarterPixel (v : Word) : BitVec 12 := field 0 12 (4 * v)

/-- `v & mask` for a mask of the low `len` bits (42_encoder_autosync.md, section 4). -/
def lowBits (len : Nat) (v : Word) : BitVec len := field 0 len v

/-- `(hi & ~mask) | (value & mask)`, the masked merge of 45_fixup_commands.md R376. -/
def maskedMerge {n : Nat} (old mask value : BitVec n) : BitVec n := (old &&& ~~~mask) ||| (value &&& mask)

/-- A word list as a command, if it has a word 0. -/
def cmdOfWords : List Word → Option Cmd
  | [] => none
  | w :: ws => some ⟨w, ws⟩

/-- The ids a client overlay can take, 2 .. N_OVL-1, lowest first (41_overlay_registry.md R190). -/
def clientIds : List (Fin 16) := [2, 3, 4, 5, 6, 7, 8, 9, 10, 11, 12, 13, 14, 15]

/-- The 16 functions of an overlay (R112). -/
def functions : List (Fin 16) := 0 :: 1 :: clientIds

end Sys2Proof.Machine
end

