-- ==== Sys2Proof/Machine/Flags.lean ====
section
/-! DEFINITION. The block has no flags (43_consumer_dispatch.md, introduction); its status bits are the hazard masks of
10_state.md R50. This file has their layout, the static hazard table (42_encoder_autosync.md R220) and the
computations on them (R213, 60_exceptions.md R421). -/
namespace Sys2Proof.Machine

open Sys2Proof

/-- Bits 0..7 (R50). -/
def tileMask : HazardMask := 0x000000FF#32

/-- Bits 8..9 (R50). -/
def tmemMask : HazardMask := 0x00000300#32

/-- Bit 10 (R50). -/
def pipeMask : HazardMask := 0x00000400#32

/-- Every defined bit (R50). -/
def allMask : HazardMask := 0x000007FF#32

/-- `TILE(t) = 1 << t` (R220). -/
def tileBit (t : BitVec 3) : HazardMask := 1#32 <<< t.toNat

/-- `TMEM(0) = 1 << 8` (R220). -/
def tmemBit0 : HazardMask := 0x00000100#32

/-- `PIPE = 1 << 10` (R220). -/
def pipeBit : HazardMask := 0x00000400#32

/-- `HZ_use` (R220). -/
def hzUse (c : Cmd) : HazardMask :=
  match c.op.toNat with
  | 0x24 => pipeBit ||| tileBit (tileOf c) ||| tmemBit0
  | 0x25 => pipeBit ||| tileBit (tileOf c) ||| tmemBit0
  | 0x30 => tileBit (tileOf c)
  | 0x33 => tileBit (tileOf c)
  | 0x34 => tileBit (tileOf c)
  | 0x36 => pipeBit
  | _ => 0

/-- `HZ_change` (R220). -/
def hzChange (c : Cmd) : HazardMask :=
  match c.op.toNat with
  | 0x11 => pipeBit
  | 0x12 => pipeBit
  | 0x13 => pipeBit
  | 0x14 => pipeBit
  | 0x2A => pipeBit
  | 0x2B => pipeBit
  | 0x2C => pipeBit
  | 0x2D => pipeBit
  | 0x2E => pipeBit
  | 0x2F => pipeBit
  | 0x30 => tmemBit0
  | 0x32 => tileBit (tileOf c)
  | 0x33 => tmemBit0
  | 0x34 => tmemBit0
  | 0x35 => tileBit (tileOf c)
  | 0x37 => pipeBit
  | 0x38 => pipeBit
  | 0x39 => pipeBit
  | 0x3A => pipeBit
  | 0x3B => pipeBit
  | 0x3C => pipeBit
  | 0x3D => pipeBit
  | 0x3E => pipeBit
  | 0x3F => pipeBit
  | _ => 0

/-- `HZ_clear` (R220). -/
def hzClear (c : Cmd) : HazardMask :=
  match c.op.toNat with
  | 0x26 => tmemMask
  | 0x27 => pipeMask
  | 0x28 => tileMask
  | 0x29 => allMask
  | _ => 0

/-- `(m & ~clr) | use`, the update of a hazard mask by a command (R213, R421). -/
def hazardUpdate (m clr use : HazardMask) : HazardMask := (m &&& ~~~clr) ||| use

/-- The observer's hit `HZ_change(c) & RZ_INUSE` (R421). -/
def hazardHit (inuse : HazardMask) (c : Cmd) : HazardMask := hzChange c &&& inuse

/-- The enable bits of AUTOSYNC_CFG (10_state.md R52): bit 0 PIPE, bit 1 TILE, bit 2 LOAD. -/
def cfgPipe (cfg : BitVec 3) : Bool := cfg.getLsbD 0
def cfgTile (cfg : BitVec 3) : Bool := cfg.getLsbD 1
def cfgLoad (cfg : BitVec 3) : Bool := cfg.getLsbD 2

/-- SYNC_LOAD, SYNC_PIPE, SYNC_TILE and SYNC_FULL as the producer emits them (42_encoder_autosync.md R213, R230, R232). -/
def syncLoadCmd : Cmd := ⟨0x26000000#32, [0]⟩
def syncPipeCmd : Cmd := ⟨0x27000000#32, [0]⟩
def syncTileCmd : Cmd := ⟨0x28000000#32, [0]⟩
def syncFullCmd : Cmd := ⟨0x29000000#32, [0]⟩

/-- One class's automatic sync (R213): if a bit of the class hit and the class is enabled, the sync is queued and the
class's bits are cleared. -/
def autoSync (enabled : Bool) (sync : Cmd) (mask hit : HazardMask) (qa : List MicroStep × HazardMask) :
    List MicroStep × HazardMask :=
  if hit &&& mask ≠ 0 ∧ enabled = true then (qa.1 ++ [.emit sync mask 0], qa.2 &&& ~~~mask) else qa

/-- The expansion of a write (R213): the micro-steps it queues and AUTOSYNC after it. -/
def expandWrite (cfg : BitVec 3) (autosync : HazardMask) (c : Cmd) (chg use : HazardMask) :
    List MicroStep × HazardMask :=
  let hit := chg &&& autosync
  let q1 := autoSync (cfgTile cfg) syncTileCmd tileMask hit ([], autosync)
  let q2 := autoSync (cfgLoad cfg) syncLoadCmd tmemMask hit q1
  let q3 := autoSync (cfgPipe cfg) syncPipeCmd pipeMask hit q2
  (q3.1 ++ [.emit c (hzClear c) use], hazardUpdate q3.2 (hzClear c) use)

end Sys2Proof.Machine
end

