-- ==== Sys2Proof/Machine/Ops.lean ====
section
/-! DEFINITION. The named operations over memory, the ring, the registry and the rasterizer queue, and the block's one
exception: raising a fatal fault (60_exceptions.md R401), with the power-on reset that alone clears it (R405). -/
namespace Sys2Proof.Machine

open Sys2Proof

/-- What an unlisted byte of memory reads as: no value (log 4). Every listed byte reads as what was written last. -/
def memRead : Memory → Nat → Option Byte
  | [], _ => none
  | (a, v) :: m, x => if a = x then some v else memRead m x

/-- Writes one byte, keeping the addresses strictly rising. -/
def memWrite : Memory → Nat → Byte → Memory
  | [], x, v => [(x, v)]
  | (a, u) :: m, x, v =>
    if x < a then (x, v) :: (a, u) :: m
    else if x = a then (x, v) :: m
    else (a, u) :: memWrite m x v

/-- Addresses strictly rising from `lo` on, and inside the 2^24 bytes of the space (20_memory.md R81). -/
def memWfFrom : Nat → Memory → Bool
  | _, [] => true
  | lo, (a, _) :: m => decide (lo ≤ a) && decide (a < 2 ^ 24) && memWfFrom (a + 1) m

/-- The canonical form of memory. -/
def memWf (m : Memory) : Bool := memWfFrom 0 m

/-- `MemRead(a, 4)`, big-endian (R80); `none` if one of its bytes has no value. -/
def memReadWord (m : Memory) (a : Nat) : Option Word :=
  match memRead m a, memRead m (a + 1), memRead m (a + 2), memRead m (a + 3) with
  | some b0, some b1, some b2, some b3 => some (wordOfBytes b0 b1 b2 b3)
  | _, _, _, _ => none

/-- `MemWrite(a, 4, w)`, big-endian (R80). -/
def memWriteWord (m : Memory) (a : Nat) (w : Word) : Memory :=
  memWrite (memWrite (memWrite (memWrite m a (field 24 8 w)) (a + 1) (field 16 8 w)) (a + 2) (field 8 8 w)) (a + 3)
    (field 0 8 w)

/-- Consecutive words, the first at `a`. -/
def memWriteWords (m : Memory) (a : Nat) : List Word → Memory
  | [] => m
  | w :: ws => memWriteWords (memWriteWord m a w) (a + 4) ws

/-- `BUF_BASE[b]` (00_scope.md R10). -/
def bufBase (p : Params) : RingBuf → Addr
  | .b0 => p.bufBase0
  | .b1 => p.bufBase1

/-- The byte address of `BUF[b][i]` (20_memory.md R82). -/
def ringAddr (p : Params) (b : RingBuf) (i : Nat) : Nat := (bufBase p b).toNat + 4 * i

/-- The buffer, its guard word included, lies inside memory (the constraint of R10). -/
def ringFits (p : Params) (b : RingBuf) : Bool := decide (ringAddr p b (p.cap + 1) ≤ 2 ^ 24)

/-- Reads `BUF[b][i]`, `i` in `0..CAP` (R82). -/
def ringRead (s : State) (b : RingBuf) (i : Nat) : Except Fault Word :=
  if s.params.cap < i then .error .ringIndex
  else if ringFits s.params b = false then .error .noMemory
  else
    match memReadWord s.mem (ringAddr s.params b i) with
    | none => .error .unwritten
    | some w => .ok w

/-- Reads `BUF[b][i .. i+n-1]`. -/
def ringReads (s : State) (b : RingBuf) (i : Nat) : Nat → Except Fault (List Word)
  | 0 => .ok []
  | n + 1 =>
    match ringRead s b i with
    | .error f => .error f
    | .ok w =>
      match ringReads s b (i + 1) n with
      | .error f => .error f
      | .ok ws => .ok (w :: ws)

/-- Writes `BUF[b][i ..]`, every word in `0..CAP` (R82). -/
def ringWrite (s : State) (b : RingBuf) (i : Nat) (ws : List Word) : Except Fault State :=
  if s.params.cap + 1 < i + ws.length then .error .ringIndex
  else if ringFits s.params b = false then .error .noMemory
  else .ok { s with mem := memWriteWords s.mem (ringAddr s.params b i) ws }

/-- The 8-bit value of a fault code (60_exceptions.md R402). -/
def FaultCode.value : FaultCode → BitVec 8
  | .notInit => 0x01
  | .alreadyInit => 0x02
  | .notStarted => 0x03
  | .afterStart => 0x04
  | .ovlTableFull => 0x05
  | .ovlDuplicate => 0x06
  | .ovlIdRange => 0x07
  | .selRange => 0x08
  | .selBound => 0x09
  | .ovlNotRegistered => 0x0A
  | .badDescriptor => 0x0B
  | .oversize => 0x0C
  | .reservationState => 0x0D
  | .publishIncomplete => 0x0E
  | .reservedOpcode => 0x0F
  | .sizeMismatch => 0x10
  | .badMask => 0x11
  | .misaligned => 0x12
  | .badEnum => 0x13
  | .unboundSelector => 0x14
  | .invalidOpcode => 0x15
  | .badJump => 0x16
  | .ringOverrun => 0x17
  | .flipInCopy => 0x18
  | .badForward => 0x19
  | .spuriousFence => 0x1A
  | .handlerFault => 0x1B
  | .unsupportedFeature => 0x40
  | .rzHazard => 0x80

/-- The class of a fault code (R402). -/
def FaultCode.cls : FaultCode → FaultClass
  | .unsupportedFeature => .unsupported
  | .rzHazard => .undefined
  | _ => .contract

/-- Why a step of an agent does not complete: it raises a fatal fault of the block, or it makes an access that does not
exist (a Fault of the model). -/
inductive Halt where
  | raise (code : FaultCode) (info : List Word)
  | fault (f : Fault)
deriving DecidableEq, Repr

/-- `raise Fatal(cls, code, info)` by agent `a`, on the state before the faulting step (R401): "the step that raised has
no other effect". A fault already recorded is never written again. -/
def raise (s : State) (a : Agent) (code : FaultCode) (info : List Word) : State :=
  match s.fault with
  | none => { s with fault := some ⟨code.cls, code, a, info⟩ }
  | some _ => s

/-- The outcome of a step of agent `a` from `s`: its next state, or the fault it raised with every write of the step
discarded (R401). -/
def settle (a : Agent) (s : State) : Except Halt State → Host.Outcome State Fault Refusal
  | .ok t => .next t
  | .error (.raise code info) => .next (raise s a code info)
  | .error (.fault f) => .fault f

/-- Power-on reset (70_reset_and_hazards.md R450), the only way out of a fault (R405): every element at its reset value;
ring memory has no value again; the parameters and the inputs stay. -/
def powerOnReset (s : State) : State :=
  { State.resetWith s.params with hostOps := s.hostOps, turns := s.turns, tick := s.tick }

/-- CLOSE_COMMIT (40_ring_buffer.md R153): every element at its reset value, except FAULT, the logs and ring memory. -/
def closeCommit (s : State) : State :=
  { State.resetWith s.params with
    fault := s.fault, rzLog := s.rzLog, cbLog := s.cbLog, mem := s.mem,
    hostOps := s.hostOps, turns := s.turns, tick := s.tick }

/-- The descriptor `init` gives overlay 0: locations and sizes 0, the internal commands (R451, 10_state.md R44). -/
def internalDescriptor : Descriptor := { noDescriptor with cmdSize := .internal, handler := .internal }

/-- The descriptor `init` gives overlay 1: locations and sizes 0, the built-in commands (R451, 10_state.md R44). -/
def builtinDescriptor : Descriptor := { noDescriptor with cmdSize := .builtin, handler := .builtin }

/-- The state after `init` (R451), the two ring buffers cleared to terminators. -/
def initState (s : State) (mem : Memory) : State :=
  { State.resetWith s.params with
    fault := s.fault, rzLog := s.rzLog, cbLog := s.cbLog,
    hostOps := s.hostOps, turns := s.turns, tick := s.tick,
    lc := .ready, mem := mem,
    ovlValid := ((Vector.replicate 16 false).set 0 true).set 1 true,
    ovlDesc := ((Vector.replicate 16 noDescriptor).set 0 internalDescriptor).set 1 builtinDescriptor,
    selMap := ((((Vector.replicate 16 none).set 0 (some 0)).set 1 (some 1)).set 2 (some 1)).set 3 (some 1) }

/-- `LOOKUP[i]`, entry 0 hardwired to 0 (10_state.md R46). -/
def lookupRead (s : State) (i : BitVec 4) : Addr := if i = 0 then 0 else s.lookup[i.toFin]

/-- The write of SET_LOOKUP_ADDRESS: entry 0 is never written (45_fixup_commands.md R370). -/
def lookupWrite (s : State) (i : BitVec 4) (a : Addr) : State :=
  if i = 0 then s else { s with lookup := s.lookup.set i.toFin a }

/-- `resolve(w1) = (LOOKUP[index] + offset) mod 2^24` (R371). -/
def resolve (s : State) (index : BitVec 4) (offset : Addr) : Addr := lookupRead s index + offset

/-- `cmd_size` of a descriptor for an opcode: by the whole opcode for overlays 0 and 1, by the function for a client
(10_state.md R44, 30_encoding.md R112). -/
def descSize (d : Descriptor) (op : Byte) : Nat :=
  match d.cmdSize with
  | .internal => if op.toNat < 0x10 then builtinSize op else 0
  | .builtin => if 0x10 ≤ op.toNat ∧ op.toNat < 0x40 then builtinSize op else 0
  | .client sizes => sizes[fnOf op]

/-- `SIZE(op)` (30_encoding.md R112): the built-in tables for selectors 0 to 3, the bound overlay's table above;
`none` for an unbound selector 4 to 15. -/
def opSize (s : State) (op : Byte) : Option Nat :=
  if selOf op < 4 then some (builtinSize op)
  else
    match s.selMap[selOf op] with
    | none => none
    | some id => some (descSize s.ovlDesc[id] op)

/-- The info `[x, CBUF, RPOS]` of the consumer's decode faults (60_exceptions.md R402). -/
def consumerInfo (s : State) (x : Word) : List Word := [x, s.cbuf.index, wordOfNat s.rpos]

/-- The overlay of a command of selector 1 to 15 at the consumer's position and its size, or the decode fault, in the
order of 43_consumer_dispatch.md R260: UNBOUND_SELECTOR, INVALID_OPCODE, RING_OVERRUN. -/
def overlayExtent (s : State) (op : Byte) : Except Halt (Fin 16 × Nat) :=
  match s.selMap[selOf op] with
  | none => .error (.raise .unboundSelector (consumerInfo s (opWord op)))
  | some id =>
    let n := (opSize s op).getD 0
    if n = 0 then .error (.raise .invalidOpcode (consumerInfo s (opWord op)))
    else if s.params.cap < s.rpos + n then .error (.raise .ringOverrun (consumerInfo s (opWord op)))
    else .ok (id, n)

/-- The size of the command at the consumer's position (R260): the internal table for selector 0 (R261, R266). -/
def commandSize (s : State) (op : Byte) : Except Halt Nat :=
  if selOf op = 0 then
    if builtinSize op = 0 then .error (.raise .invalidOpcode (consumerInfo s (opWord op)))
    else .ok (builtinSize op)
  else
    match overlayExtent s op with
    | .error h => .error h
    | .ok (_, n) => .ok n

/-- The size table the decoder uses in a state (R112). -/
def decodeSize (s : State) (op : Byte) : Option Nat :=
  if selOf op = 0 then some (builtinSize op)
  else
    match s.selMap[selOf op] with
    | none => none
    | some _ => opSize s op

/-- The mode check of `forward` (43_consumer_dispatch.md R276): the first TEXTURE_RECTANGLE_FLIP of the list that is
forwarded in COPY mode, SET_OTHER_MODES commands earlier in the list included. -/
def flipInCopy (omHi : BitVec 24) : List Cmd → Option Cmd
  | [] => none
  | c :: cs =>
    if c.op = 0x25 ∧ cycleType omHi = copyMode then some c
    else flipInCopy (if c.op = 0x2F then c.a24 else omHi) cs

/-- OM_HI after the commands of the list are forwarded (R276). -/
def omHiAfter (omHi : BitVec 24) : List Cmd → BitVec 24
  | [] => omHi
  | c :: cs => omHiAfter (if c.op = 0x2F then c.a24 else omHi) cs

/-- OM_LO after the commands of the list are forwarded (R276). -/
def omLoAfter (omLo : Word) : List Cmd → Word
  | [] => omLo
  | c :: cs => omLoAfter (if c.op = 0x2F then argWord1 c else omLo) cs

/-- The commit of `forward(out)` (R276): the commands join RZ_Q in order, and the mode words follow them. -/
def forward (s : State) (out : List Cmd) : State :=
  { s with rzQ := s.rzQ ++ out, omHi := omHiAfter s.omHi out, omLo := omLoAfter s.omLo out }

/-- The end of a dispatched command of `n` words (R260): the mode check, the stall on a full queue (R277), and the
commit. `s` is the state before the step, `t` that state with the handler's own writes. -/
def commitCommand (s : State) (id : Fin 16) (n : Nat) (out : List Cmd) (t : State) : Except Halt State :=
  match flipInCopy s.omHi out with
  | some c => .error (.raise .flipInCopy [c.w0])
  | none =>
    if s.params.rzqCap < s.rzQ.length + out.length then .ok s
    else .ok { forward t out with curOvl := id, rpos := s.rpos + n }

/-- A client handler's value: the known one if a row gives it, else the free function's (R275; log 6). -/
def handlerValue (h : Handler) (op : Byte) (c : Cmd) (st : List Word) : HandlerResult :=
  match h.rows.find? (fun r => decide (r.op = op) && decide (r.cmd = c) && decide (r.st = st)) with
  | some r => r.result
  | none => Config.handler h.code op c st

/-- A command a client handler may not forward: not a fixed rasterizer command of its size, or a SYNC_FULL (R275). -/
def mayNotForward (c : Cmd) : Bool :=
  !(decide (selOf c.op = 2) || decide (selOf c.op = 3)) || decide (builtinSize c.op ≠ c.size) || decide (c.op = 0x29)

/-- The client overlay handler (R275): what it forwards, and the state with its own state written. -/
def clientHandler (s : State) (id : Fin 16) (c : Cmd) : Except Halt (List Cmd × State) :=
  match s.ovlDesc[id].handler with
  | .client h =>
    match handlerValue h c.op c s.ovlState[id] with
    | .fail info => .error (.raise .handlerFault (opWord c.op :: info))
    | .ok out st =>
      match out.find? mayNotForward with
      | some d => .error (.raise .badForward [opWord c.op, opWord d.op])
      | none =>
        if s.params.rzqCap < out.length then .error (.raise .badForward [opWord c.op, wordOfNat out.length])
        else .ok (out, { s with ovlState := s.ovlState.set id st })
  | _ => .error (.fault .noHandler)

/-- The handler `H(id, op, CMD)` of a dispatched command (R270): the built-in overlay's, given for the command, or the
client overlay's. -/
def handlerOf (s : State) (id : Fin 16) (c : Cmd) (builtin : Option (List Cmd × State)) :
    Except Halt (List Cmd × State) :=
  if id = 1 then
    match builtin with
    | some r => .ok r
    | none => .error (.fault .noHandler)
  else clientHandler s id c

/-- Dispatches a command of selector 1 to 15 (R260): its extent, its handler, its commit. `builtin` is what the built-in
overlay's handler for it forwards and writes, if it has one. -/
def dispatch (s : State) (c : Cmd) (builtin : Option (List Cmd × State)) : Except Halt State :=
  match overlayExtent s c.op with
  | .error h => .error h
  | .ok (id, n) =>
    match handlerOf s id c builtin with
    | .error h => .error h
    | .ok (out, t) => commitCommand s id n out t

/-- The pass-through handler (44_rasterizer_commands.md R300): the command is forwarded word for word. -/
def passThrough (s : State) (i : Instr) : Host.Outcome State Fault Refusal :=
  settle .consumer s (dispatch s (encodeCmd i) (some ([encodeCmd i], s)))

/-- A fixup (45_fixup_commands.md): the built-in handler forwards `out` and leaves the state `t`. -/
def fixup (s : State) (i : Instr) (out : List Cmd) (t : State) : Host.Outcome State Fault Refusal :=
  settle .consumer s (dispatch s (encodeCmd i) (some (out, t)))

/-- A command of a client selector (43_consumer_dispatch.md R275). -/
def clientCommand (s : State) (i : Instr) : Host.Outcome State Fault Refusal :=
  settle .consumer s (dispatch s (encodeCmd i) none)

/-- The block is drained (70_reset_and_hazards.md R478). -/
def drained (s : State) : Bool :=
  !s.switchPending && decide (s.resN = 0) && decide (s.cbuf = s.active) && decide (s.rpos = s.cursor)
    && !s.sig && decide (s.cstate = .idle) && decide (s.rzQ = []) && decide (s.irqPending = 0)

end Sys2Proof.Machine
end

