-- ==== Sys2Proof/Machine/Client.lean ====
section
/-! DEFINITION. The meanings of the client commands (43_consumer_dispatch.md R275), one for each selector 4 to 15: the
command goes to the overlay the selector is bound to. -/
namespace Sys2Proof.Machine

open Sys2Proof

/-- CLIENT_SEL4 (R275). -/
def execClientSel4 (fn : BitVec 4) (a24 : BitVec 24) (args : List Word) (s : State) :
    Host.Outcome State Fault Refusal :=
  clientCommand s (.clientSel4 fn a24 args)

/-- CLIENT_SEL5 (R275). -/
def execClientSel5 (fn : BitVec 4) (a24 : BitVec 24) (args : List Word) (s : State) :
    Host.Outcome State Fault Refusal :=
  clientCommand s (.clientSel5 fn a24 args)

/-- CLIENT_SEL6 (R275). -/
def execClientSel6 (fn : BitVec 4) (a24 : BitVec 24) (args : List Word) (s : State) :
    Host.Outcome State Fault Refusal :=
  clientCommand s (.clientSel6 fn a24 args)

/-- CLIENT_SEL7 (R275). -/
def execClientSel7 (fn : BitVec 4) (a24 : BitVec 24) (args : List Word) (s : State) :
    Host.Outcome State Fault Refusal :=
  clientCommand s (.clientSel7 fn a24 args)

/-- CLIENT_SEL8 (R275). -/
def execClientSel8 (fn : BitVec 4) (a24 : BitVec 24) (args : List Word) (s : State) :
    Host.Outcome State Fault Refusal :=
  clientCommand s (.clientSel8 fn a24 args)

/-- CLIENT_SEL9 (R275). -/
def execClientSel9 (fn : BitVec 4) (a24 : BitVec 24) (args : List Word) (s : State) :
    Host.Outcome State Fault Refusal :=
  clientCommand s (.clientSel9 fn a24 args)

/-- CLIENT_SEL10 (R275). -/
def execClientSel10 (fn : BitVec 4) (a24 : BitVec 24) (args : List Word) (s : State) :
    Host.Outcome State Fault Refusal :=
  clientCommand s (.clientSel10 fn a24 args)

/-- CLIENT_SEL11 (R275). -/
def execClientSel11 (fn : BitVec 4) (a24 : BitVec 24) (args : List Word) (s : State) :
    Host.Outcome State Fault Refusal :=
  clientCommand s (.clientSel11 fn a24 args)

/-- CLIENT_SEL12 (R275). -/
def execClientSel12 (fn : BitVec 4) (a24 : BitVec 24) (args : List Word) (s : State) :
    Host.Outcome State Fault Refusal :=
  clientCommand s (.clientSel12 fn a24 args)

/-- CLIENT_SEL13 (R275). -/
def execClientSel13 (fn : BitVec 4) (a24 : BitVec 24) (args : List Word) (s : State) :
    Host.Outcome State Fault Refusal :=
  clientCommand s (.clientSel13 fn a24 args)

/-- CLIENT_SEL14 (R275). -/
def execClientSel14 (fn : BitVec 4) (a24 : BitVec 24) (args : List Word) (s : State) :
    Host.Outcome State Fault Refusal :=
  clientCommand s (.clientSel14 fn a24 args)

/-- CLIENT_SEL15 (R275). -/
def execClientSel15 (fn : BitVec 4) (a24 : BitVec 24) (args : List Word) (s : State) :
    Host.Outcome State Fault Refusal :=
  clientCommand s (.clientSel15 fn a24 args)

end Sys2Proof.Machine
end

