-- ==== Sys2Proof/Machine/Colors.lean ====
section
/-! DEFINITION. The meanings of the fill and colour commands (44_rasterizer_commands.md R330 to R336): each is forwarded word for word (R300). -/
namespace Sys2Proof.Machine

open Sys2Proof

/-- FILL_RECTANGLE (R330). -/
def execFillRectangle (x1 y1 : BitVec 12) (opaque1 : BitVec 8) (x0 y0 : BitVec 12) (s : State) :
    Host.Outcome State Fault Refusal :=
  passThrough s (.fillRectangle x1 y1 opaque1 x0 y0)

/-- SET_FILL_COLOR (R331). -/
def execSetFillColor (opaque0 : BitVec 24) (color : BitVec 32) (s : State) :
    Host.Outcome State Fault Refusal :=
  passThrough s (.setFillColor opaque0 color)

/-- SET_FOG_COLOR (R332). -/
def execSetFogColor (opaque0 : BitVec 24) (opaque1 : BitVec 32) (s : State) :
    Host.Outcome State Fault Refusal :=
  passThrough s (.setFogColor opaque0 opaque1)

/-- SET_BLEND_COLOR (R333). -/
def execSetBlendColor (opaque0 : BitVec 24) (opaque1 : BitVec 32) (s : State) :
    Host.Outcome State Fault Refusal :=
  passThrough s (.setBlendColor opaque0 opaque1)

/-- SET_PRIM_COLOR (R334). -/
def execSetPrimColor (opaque0 : BitVec 24) (opaque1 : BitVec 32) (s : State) :
    Host.Outcome State Fault Refusal :=
  passThrough s (.setPrimColor opaque0 opaque1)

/-- SET_ENV_COLOR (R335). -/
def execSetEnvColor (opaque0 : BitVec 24) (opaque1 : BitVec 32) (s : State) :
    Host.Outcome State Fault Refusal :=
  passThrough s (.setEnvColor opaque0 opaque1)

/-- SET_COMBINE (R336). -/
def execSetCombine (opaque0 : BitVec 24) (opaque1 : BitVec 32) (s : State) :
    Host.Outcome State Fault Refusal :=
  passThrough s (.setCombine opaque0 opaque1)

end Sys2Proof.Machine
end

