-- ==== Sys2Proof/Machine/Fixups.lean ====
section
/-! DEFINITION. The dynamic commands of the built-in overlay (45_fixup_commands.md R370 to R376). -/
namespace Sys2Proof.Machine

open Sys2Proof

/-- SET_LOOKUP_ADDRESS (R370): writes LOOKUP[index] unless index is 0, and forwards nothing. -/
def execSetLookupAddress (ignored0 : BitVec 24) (index ignored1 : BitVec 4) (addr : BitVec 24) (s : State) :
    Host.Outcome State Fault Refusal :=
  fixup s (.setLookupAddress ignored0 index ignored1 addr) [] (lookupWrite s index addr)

/-- SET_COLOR_IMAGE_DYN (R372): forwards SET_COLOR_IMAGE with every bit of w0[23:0] copied and the resolved address. -/
def execSetColorImageDyn (format : BitVec 5) (opaque0 : BitVec 9) (strideUnits : BitVec 10) (index ignored1 : BitVec 4)
    (offset : BitVec 24) (s : State) : Host.Outcome State Fault Refusal :=
  fixup s (.setColorImageDyn format opaque0 strideUnits index ignored1 offset)
    [encodeCmd (.setColorImage format opaque0 strideUnits 0 (resolve s index offset))] s

/-- SET_Z_IMAGE_DYN (R373): forwards SET_Z_IMAGE with w0[23:0] copied and the resolved address. -/
def execSetZImageDyn (opaque0 : BitVec 24) (index ignored1 : BitVec 4) (offset : BitVec 24) (s : State) :
    Host.Outcome State Fault Refusal :=
  fixup s (.setZImageDyn opaque0 index ignored1 offset)
    [encodeCmd (.setZImage opaque0 0 (resolve s index offset))] s

/-- SET_TEXTURE_IMAGE_DYN (R374): forwards SET_TEXTURE_IMAGE with w0[23:0] copied and the resolved address. -/
def execSetTextureImageDyn (format : BitVec 5) (opaque0 : BitVec 9) (strideUnits : BitVec 10)
    (index ignored1 : BitVec 4) (offset : BitVec 24) (s : State) : Host.Outcome State Fault Refusal :=
  fixup s (.setTextureImageDyn format opaque0 strideUnits index ignored1 offset)
    [encodeCmd (.setTextureImage format opaque0 strideUnits 0 (resolve s index offset))] s

/-- MODIFY_OTHER_MODES (R376): merges `value` under `mask` into the half of the persisted mode that `half` names, and
forwards the whole SET_OTHER_MODES; `forward` writes OM_HI and OM_LO. -/
def execModifyOtherModes (ignored0 : BitVec 23) (half : BitVec 1) (mask value : BitVec 32) (s : State) :
    Host.Outcome State Fault Refusal :=
  fixup s (.modifyOtherModes ignored0 half mask value)
    [if half = 0 then
       encodeCmd (.setOtherModes (maskedMerge s.omHi (lowBits 24 mask) (lowBits 24 value)) s.omLo)
     else encodeCmd (.setOtherModes s.omHi (maskedMerge s.omLo mask value))] s

end Sys2Proof.Machine
end

