-- ==== Sys2Proof/Machine/Images.lean ====
section
/-! DEFINITION. The meanings of the fixed image commands (44_rasterizer_commands.md R340 to R342): each is forwarded word for word (R300). -/
namespace Sys2Proof.Machine

open Sys2Proof

/-- SET_TEXTURE_IMAGE (R340). -/
def execSetTextureImage (format : BitVec 5) (opaque0 : BitVec 9) (strideUnits : BitVec 10) (zero1 : BitVec 8) (addr : BitVec 24) (s : State) :
    Host.Outcome State Fault Refusal :=
  passThrough s (.setTextureImage format opaque0 strideUnits zero1 addr)

/-- SET_Z_IMAGE (R341). -/
def execSetZImage (opaque0 : BitVec 24) (zero1 : BitVec 8) (addr : BitVec 24) (s : State) :
    Host.Outcome State Fault Refusal :=
  passThrough s (.setZImage opaque0 zero1 addr)

/-- SET_COLOR_IMAGE (R342). -/
def execSetColorImage (format : BitVec 5) (opaque0 : BitVec 9) (strideUnits : BitVec 10) (zero1 : BitVec 8) (addr : BitVec 24) (s : State) :
    Host.Outcome State Fault Refusal :=
  passThrough s (.setColorImage format opaque0 strideUnits zero1 addr)

end Sys2Proof.Machine
end

