-- ==== Sys2Proof/Machine/Internal.lean ====
section
/-! DEFINITION. The internal commands of selector 0 (43_consumer_dispatch.md R261 to R264), executed by the consumer
itself: they forward nothing and never change CUR_OVL. -/
namespace Sys2Proof.Machine

open Sys2Proof

/-- TERMINATOR (R262): with the signal set, it is consumed and the word is read again; else the consumer pauses. -/
def execTerminator (_ignored : BitVec 24) (s : State) : Host.Outcome State Fault Refusal :=
  settle .consumer s
    (.ok (if s.sig = true then { s with sig := false } else { s with cstate := .idle }))

/-- NOOP (R263). -/
def execNoop (_ignored : BitVec 24) (s : State) : Host.Outcome State Fault Refusal :=
  settle .consumer s (.ok { s with rpos := s.rpos + 1 })

/-- JUMP (R264): to word 0 of the other buffer; any other target is BAD_JUMP. -/
def execJump (target : BitVec 24) (s : State) : Host.Outcome State Fault Refusal :=
  settle .consumer s
    (if target = bufBase s.params s.cbuf.other then .ok { s with cbuf := s.cbuf.other, rpos := 0 }
     else .error (.raise .badJump (consumerInfo s (encodeCmd (.jump target)).w0)))

end Sys2Proof.Machine
end

