-- ==== Sys2Proof/Machine/Modes.lean ====
section
/-! DEFINITION. The meanings of the mode and state commands (44_rasterizer_commands.md R310 to R315): each is forwarded word for word (R300). -/
namespace Sys2Proof.Machine

open Sys2Proof

/-- SET_KEY_GB (R310). -/
def execSetKeyGb (opaque0 : BitVec 24) (opaque1 : BitVec 32) (s : State) :
    Host.Outcome State Fault Refusal :=
  passThrough s (.setKeyGb opaque0 opaque1)

/-- SET_KEY_R (R311). -/
def execSetKeyR (opaque0 : BitVec 24) (opaque1 : BitVec 32) (s : State) :
    Host.Outcome State Fault Refusal :=
  passThrough s (.setKeyR opaque0 opaque1)

/-- SET_CONVERT (R312). -/
def execSetConvert (opaque0 : BitVec 24) (opaque1 : BitVec 32) (s : State) :
    Host.Outcome State Fault Refusal :=
  passThrough s (.setConvert opaque0 opaque1)

/-- SET_SCISSOR (R313). -/
def execSetScissor (x0 y0 : BitVec 12) (opaque1 : BitVec 8) (x1 y1 : BitVec 12) (s : State) :
    Host.Outcome State Fault Refusal :=
  passThrough s (.setScissor x0 y0 opaque1 x1 y1)

/-- SET_PRIM_DEPTH (R314). -/
def execSetPrimDepth (opaque0 : BitVec 24) (opaque1 : BitVec 32) (s : State) :
    Host.Outcome State Fault Refusal :=
  passThrough s (.setPrimDepth opaque0 opaque1)

/-- SET_OTHER_MODES (R315); `forward` writes OM_HI and OM_LO. -/
def execSetOtherModes (omHi : BitVec 24) (omLo : BitVec 32) (s : State) :
    Host.Outcome State Fault Refusal :=
  passThrough s (.setOtherModes omHi omLo)

end Sys2Proof.Machine
end

