-- ==== Sys2Proof/Machine/Rectangles.lean ====
section
/-! DEFINITION. The meanings of the rectangles with texture (44_rasterizer_commands.md R301, R302): each is forwarded word for word (R300). -/
namespace Sys2Proof.Machine

open Sys2Proof

/-- TEXTURE_RECTANGLE (R301). -/
def execTextureRectangle (xl yl : BitVec 12) (opaque1 : BitVec 5) (tile : BitVec 3) (xh yh : BitVec 12) (texS texT dsdx dtdy : BitVec 16) (s : State) :
    Host.Outcome State Fault Refusal :=
  passThrough s (.textureRectangle xl yl opaque1 tile xh yh texS texT dsdx dtdy)

/-- TEXTURE_RECTANGLE_FLIP (R302); the mode check of `forward` raises FLIP_IN_COPY in COPY mode. -/
def execTextureRectangleFlip (xl yl : BitVec 12) (opaque1 : BitVec 5) (tile : BitVec 3) (xh yh : BitVec 12) (texS texT dsdx dtdy : BitVec 16) (s : State) :
    Host.Outcome State Fault Refusal :=
  passThrough s (.textureRectangleFlip xl yl opaque1 tile xh yh texS texT dsdx dtdy)

end Sys2Proof.Machine
end

