-- ==== Sys2Proof/Machine/Syncs.lean ====
section
/-! DEFINITION. The meanings of the synchronisation commands (44_rasterizer_commands.md R304 to R307): each is forwarded word for word (R300). -/
namespace Sys2Proof.Machine

open Sys2Proof

/-- SYNC_LOAD (R304). -/
def execSyncLoad (zero0 : BitVec 24) (zero1 : BitVec 32) (s : State) :
    Host.Outcome State Fault Refusal :=
  passThrough s (.syncLoad zero0 zero1)

/-- SYNC_PIPE (R305). -/
def execSyncPipe (zero0 : BitVec 24) (zero1 : BitVec 32) (s : State) :
    Host.Outcome State Fault Refusal :=
  passThrough s (.syncPipe zero0 zero1)

/-- SYNC_TILE (R306). -/
def execSyncTile (zero0 : BitVec 24) (zero1 : BitVec 32) (s : State) :
    Host.Outcome State Fault Refusal :=
  passThrough s (.syncTile zero0 zero1)

/-- SYNC_FULL (R307); the rasterizer raises the fence completion when it reaches it. -/
def execSyncFull (zero0 : BitVec 24) (zero1 : BitVec 32) (s : State) :
    Host.Outcome State Fault Refusal :=
  passThrough s (.syncFull zero0 zero1)

end Sys2Proof.Machine
end

