-- ==== Sys2Proof/Machine/Tiles.lean ====
section
/-! DEFINITION. The meanings of the tile descriptor and texture-memory commands (44_rasterizer_commands.md R320 to R324): each is forwarded word for word (R300). -/
namespace Sys2Proof.Machine

open Sys2Proof

/-- LOAD_TLUT (R320). -/
def execLoadTlut (opaque0 : BitVec 24) (opaque1 : BitVec 5) (tile : BitVec 3) (opaque2 : BitVec 24) (s : State) :
    Host.Outcome State Fault Refusal :=
  passThrough s (.loadTlut opaque0 opaque1 tile opaque2)

/-- SET_TILE_SIZE (R321). -/
def execSetTileSize (opaque0 : BitVec 24) (opaque1 : BitVec 5) (tile : BitVec 3) (opaque2 : BitVec 24) (s : State) :
    Host.Outcome State Fault Refusal :=
  passThrough s (.setTileSize opaque0 opaque1 tile opaque2)

/-- LOAD_BLOCK (R322). -/
def execLoadBlock (opaque0 : BitVec 24) (opaque1 : BitVec 5) (tile : BitVec 3) (opaque2 : BitVec 24) (s : State) :
    Host.Outcome State Fault Refusal :=
  passThrough s (.loadBlock opaque0 opaque1 tile opaque2)

/-- LOAD_TILE (R323). -/
def execLoadTile (opaque0 : BitVec 24) (opaque1 : BitVec 5) (tile : BitVec 3) (opaque2 : BitVec 24) (s : State) :
    Host.Outcome State Fault Refusal :=
  passThrough s (.loadTile opaque0 opaque1 tile opaque2)

/-- SET_TILE (R324). -/
def execSetTile (opaque0 : BitVec 24) (opaque1 : BitVec 5) (tile : BitVec 3) (opaque2 : BitVec 24) (s : State) :
    Host.Outcome State Fault Refusal :=
  passThrough s (.setTile opaque0 opaque1 tile opaque2)

end Sys2Proof.Machine
end

