-- ==== Sys2Proof/Machine/Dispatch.lean ====
section
/-! DEFINITION. The dispatch of a decoded command to its meaning: one arm per constructor of Instr. -/
namespace Sys2Proof.Machine

open Sys2Proof

/-- The CONSUMER step of one command at the consumer's position (43_consumer_dispatch.md R260). -/
def exec (i : Instr) (s : State) : Host.Outcome State Fault Refusal :=
  match i with
  | .terminator ignored => Sys2Proof.Machine.execTerminator ignored s
  | .noop ignored => Sys2Proof.Machine.execNoop ignored s
  | .jump target => Sys2Proof.Machine.execJump target s
  | .setLookupAddress ignored0 index ignored1 addr => Sys2Proof.Machine.execSetLookupAddress ignored0 index ignored1 addr s
  | .setColorImageDyn format opaque0 strideUnits index ignored1 offset => Sys2Proof.Machine.execSetColorImageDyn format opaque0 strideUnits index ignored1 offset s
  | .setZImageDyn opaque0 index ignored1 offset => Sys2Proof.Machine.execSetZImageDyn opaque0 index ignored1 offset s
  | .setTextureImageDyn format opaque0 strideUnits index ignored1 offset => Sys2Proof.Machine.execSetTextureImageDyn format opaque0 strideUnits index ignored1 offset s
  | .modifyOtherModes ignored0 half mask value => Sys2Proof.Machine.execModifyOtherModes ignored0 half mask value s
  | .textureRectangle xl yl opaque1 tile xh yh texS texT dsdx dtdy => Sys2Proof.Machine.execTextureRectangle xl yl opaque1 tile xh yh texS texT dsdx dtdy s
  | .textureRectangleFlip xl yl opaque1 tile xh yh texS texT dsdx dtdy => Sys2Proof.Machine.execTextureRectangleFlip xl yl opaque1 tile xh yh texS texT dsdx dtdy s
  | .syncLoad zero0 zero1 => Sys2Proof.Machine.execSyncLoad zero0 zero1 s
  | .syncPipe zero0 zero1 => Sys2Proof.Machine.execSyncPipe zero0 zero1 s
  | .syncTile zero0 zero1 => Sys2Proof.Machine.execSyncTile zero0 zero1 s
  | .syncFull zero0 zero1 => Sys2Proof.Machine.execSyncFull zero0 zero1 s
  | .setKeyGb opaque0 opaque1 => Sys2Proof.Machine.execSetKeyGb opaque0 opaque1 s
  | .setKeyR opaque0 opaque1 => Sys2Proof.Machine.execSetKeyR opaque0 opaque1 s
  | .setConvert opaque0 opaque1 => Sys2Proof.Machine.execSetConvert opaque0 opaque1 s
  | .setScissor x0 y0 opaque1 x1 y1 => Sys2Proof.Machine.execSetScissor x0 y0 opaque1 x1 y1 s
  | .setPrimDepth opaque0 opaque1 => Sys2Proof.Machine.execSetPrimDepth opaque0 opaque1 s
  | .setOtherModes omHi omLo => Sys2Proof.Machine.execSetOtherModes omHi omLo s
  | .loadTlut opaque0 opaque1 tile opaque2 => Sys2Proof.Machine.execLoadTlut opaque0 opaque1 tile opaque2 s
  | .setTileSize opaque0 opaque1 tile opaque2 => Sys2Proof.Machine.execSetTileSize opaque0 opaque1 tile opaque2 s
  | .loadBlock opaque0 opaque1 tile opaque2 => Sys2Proof.Machine.execLoadBlock opaque0 opaque1 tile opaque2 s
  | .loadTile opaque0 opaque1 tile opaque2 => Sys2Proof.Machine.execLoadTile opaque0 opaque1 tile opaque2 s
  | .setTile opaque0 opaque1 tile opaque2 => Sys2Proof.Machine.execSetTile opaque0 opaque1 tile opaque2 s
  | .fillRectangle x1 y1 opaque1 x0 y0 => Sys2Proof.Machine.execFillRectangle x1 y1 opaque1 x0 y0 s
  | .setFillColor opaque0 color => Sys2Proof.Machine.execSetFillColor opaque0 color s
  | .setFogColor opaque0 opaque1 => Sys2Proof.Machine.execSetFogColor opaque0 opaque1 s
  | .setBlendColor opaque0 opaque1 => Sys2Proof.Machine.execSetBlendColor opaque0 opaque1 s
  | .setPrimColor opaque0 opaque1 => Sys2Proof.Machine.execSetPrimColor opaque0 opaque1 s
  | .setEnvColor opaque0 opaque1 => Sys2Proof.Machine.execSetEnvColor opaque0 opaque1 s
  | .setCombine opaque0 opaque1 => Sys2Proof.Machine.execSetCombine opaque0 opaque1 s
  | .setTextureImage format opaque0 strideUnits zero1 addr => Sys2Proof.Machine.execSetTextureImage format opaque0 strideUnits zero1 addr s
  | .setZImage opaque0 zero1 addr => Sys2Proof.Machine.execSetZImage opaque0 zero1 addr s
  | .setColorImage format opaque0 strideUnits zero1 addr => Sys2Proof.Machine.execSetColorImage format opaque0 strideUnits zero1 addr s
  | .clientSel4 fn a24 args => Sys2Proof.Machine.execClientSel4 fn a24 args s
  | .clientSel5 fn a24 args => Sys2Proof.Machine.execClientSel5 fn a24 args s
  | .clientSel6 fn a24 args => Sys2Proof.Machine.execClientSel6 fn a24 args s
  | .clientSel7 fn a24 args => Sys2Proof.Machine.execClientSel7 fn a24 args s
  | .clientSel8 fn a24 args => Sys2Proof.Machine.execClientSel8 fn a24 args s
  | .clientSel9 fn a24 args => Sys2Proof.Machine.execClientSel9 fn a24 args s
  | .clientSel10 fn a24 args => Sys2Proof.Machine.execClientSel10 fn a24 args s
  | .clientSel11 fn a24 args => Sys2Proof.Machine.execClientSel11 fn a24 args s
  | .clientSel12 fn a24 args => Sys2Proof.Machine.execClientSel12 fn a24 args s
  | .clientSel13 fn a24 args => Sys2Proof.Machine.execClientSel13 fn a24 args s
  | .clientSel14 fn a24 args => Sys2Proof.Machine.execClientSel14 fn a24 args s
  | .clientSel15 fn a24 args => Sys2Proof.Machine.execClientSel15 fn a24 args s

end Sys2Proof.Machine
end

