-- ==== Sys2Proof/Machine/Consumer.lean ====
section
/-! DEFINITION. The CONSUMER agent (43_consumer_dispatch.md R260): the fetch of the command at its position, its
decoding, and its execution by exec. -/
namespace Sys2Proof.Machine

open Sys2Proof

/-- The bytes of the command at the consumer's position: word 0, its size (or its decode fault, R260), then all its
words. -/
def fetch (s : State) : Except Halt (List Byte) :=
  match ringRead s s.cbuf s.rpos with
  | .error f => .error (.fault f)
  | .ok w0 =>
    match commandSize s (field 24 8 w0) with
    | .error h => .error h
    | .ok n =>
      match ringReads s s.cbuf s.rpos n with
      | .error f => .error (.fault f)
      | .ok ws => .ok (bytesOfWords ws)

/-- The decode fault of a rejected byte string (R266, R267). `fetch` has already checked the command's extent (R268), so
the decoder never runs out of its bytes. -/
def rejectFault (s : State) : Reject → Halt
  | .truncated => .fault .ringIndex
  | .invalidOpcode op => .raise .invalidOpcode (consumerInfo s (opWord op))
  | .unboundSelector op => .raise .unboundSelector (consumerInfo s (opWord op))

/-- The CONSUMER step. In IDLE the consumer takes no step (R279): the state does not change. -/
def consumerStep (s : State) : Host.Outcome State Fault Refusal :=
  match s.cstate with
  | .idle => .next s
  | .run =>
    match fetch s with
    | .error h => settle .consumer s (.error h)
    | .ok bs =>
      match decode (decodeSize s) bs with
      | .error r => settle .consumer s (.error (rejectFault s r))
      | .ok (i, _) => exec i s

end Sys2Proof.Machine
end

