-- ==== Sys2Proof/Machine/Producer.lean ====
section
/-! DEFINITION. The PRODUCER agent: the issue step of every port operation (40_ring_buffer.md, 41_overlay_registry.md,
42_encoder_autosync.md) and the micro-steps it queues (10_state.md R58). -/
namespace Sys2Proof.Machine

open Sys2Proof

/-- A fatal fault raised by a check. -/
def fatal {α : Type} (code : FaultCode) (info : List Word) : Except Halt α := .error (.raise code info)

/-- The fault an operation raises outside the lifecycle states that admit it (40_ring_buffer.md R154). -/
def lifecycleFault : PortOp → Lifecycle → Option FaultCode
  | .init, .uninit => none
  | .init, _ => some .alreadyInit
  | _, .uninit => some .notInit
  | .register _ _, .ready => none
  | .register _ _, .started => some .afterStart
  | .bind _ _, .ready => none
  | .bind _ _, .started => some .afterStart
  | .start, .ready => none
  | .start, .started => some .afterStart
  | .config _ _, _ => none
  | .close, _ => none
  | _, .ready => some .notStarted
  | _, .started => none

/-- The operations an open reservation admits (R158). -/
def usesReservation : PortOp → Bool
  | .store _ _ => true
  | .publish => true
  | _ => false

/-- `STAGE[k]` (10_state.md R36). -/
def stageAt (s : State) (k : Nat) : Option Word :=
  match s.stage[k]? with
  | some w => w
  | none => none

/-- The indices below `n` that no store has written (R157). -/
def missingWords (s : State) (n : Nat) : List Nat := (List.range n).filter (fun k => decide (stageAt s k = none))

/-- The `k` that PUBLISH_INCOMPLETE records: one of the missing indices, which one being free (log 10). -/
def pickMissing (tick : Nat) : List Nat → Nat
  | [] => 0
  | [k] => k
  | k :: ks => (k :: ks).getD (Config.freePick tick % (ks.length + 1)) k

/-- The first `n` staged words, from index `k` on; an unwritten one is never read (R157). -/
def stagedWords (s : State) (k : Nat) : Nat → List Word
  | 0 => []
  | n + 1 => (stageAt s k).getD 0 :: stagedWords s (k + 1) n

/-- The opcodes that `write` and `publish` refuse whatever their size: TERMINATOR, JUMP, SYNC_FULL (R211). -/
def ringOwned (op : Byte) : Bool := decide (op = 0x00) || decide (op = 0x02) || decide (op = 0x29)

/-- Checks 2 and 3 of `write` (42_encoder_autosync.md R210, R211): the opcode, then the word count. -/
def checkOpcode (s : State) (c : Cmd) : Except Halt Unit :=
  match opSize s c.op with
  | none => fatal .unboundSelector [opWord c.op]
  | some n =>
    if ringOwned c.op = true ∨ n = 0 then fatal .reservedOpcode [opWord c.op]
    else if c.size ≠ n then fatal .sizeMismatch [opWord c.op, wordOfNat c.size]
    else .ok ()

/-- Check 4 of `write` (R210, R212): the masks a shape takes. -/
def maskRefused (shape : Shape) (op : Byte) (use change : HazardMask) : Bool :=
  decide ((use ||| change) &&& ~~~allMask ≠ 0) ||
    match shape with
    | .plain => decide (use ||| change ≠ 0)
    | .syncUse => decide (change ≠ 0)
    | .syncChange => false
    | .auto => decide (use ||| change ≠ 0) || decide (4 ≤ selOf op)

/-- The opcodes whose `w1[23:0]` is an image address or offset (R215). -/
def checksAddress (op : Byte) : Bool :=
  match op.toNat with
  | 0x10 => true
  | 0x11 => true
  | 0x12 => true
  | 0x13 => true
  | 0x3D => true
  | 0x3E => true
  | 0x3F => true
  | _ => false

/-- The opcodes whose `w0[23:19]` is an image format (R215). -/
def checksFormat (op : Byte) : Bool :=
  match op.toNat with
  | 0x11 => true
  | 0x13 => true
  | 0x3D => true
  | 0x3F => true
  | _ => false

/-- `VALID_IMG_FMT(f)` (00_scope.md R10). -/
def validFormat (p : Params) (f : BitVec 5) : Bool := p.validImgFmt.getLsbD f.toNat

/-- As many words as (mask, value) pairs, and every word agrees with the pair at its place. -/
def wordsMatch : List (Word × Word) → List Word → Bool
  | [], [] => true
  | [], _ :: _ => false
  | _ :: _, [] => false
  | (m, v) :: ps, w :: ws => decide (w &&& m = v) && wordsMatch ps ws

/-- `UNSUPPORTED(op, words)` (00_scope.md R10; log 8). -/
def unsupportedFeature (p : Params) (c : Cmd) : Bool :=
  p.unsupported.any (fun f => decide (f.op = c.op) && wordsMatch f.words c.words)

/-- Operand validation `V(op, words)`, its rows from the top down (R215). -/
def validate (p : Params) (c : Cmd) : Except Halt Unit :=
  if c.op = 0x10 ∧ indexOf c = 0 then fatal .badEnum [opWord c.op]
  else if checksAddress c.op = true ∧ (addrOf c).toNat % p.imgAlign ≠ 0 then fatal .misaligned [opWord c.op]
  else if checksFormat c.op = true ∧ validFormat p (formatOf c) = false then fatal .badEnum [opWord c.op]
  else if unsupportedFeature p c = true then fatal .unsupportedFeature [opWord c.op]
  else .ok ()

/-- The change and use masks of a write: the static table for AUTO, else the operands (R213). -/
def writeMasks (shape : Shape) (c : Cmd) (use change : HazardMask) : HazardMask × HazardMask :=
  match shape with
  | .auto => (hzChange c, hzUse c)
  | _ => (change, use)

/-- `write`, after the lifecycle and reservation checks (R210, R213). -/
def doWrite (s : State) (shape : Shape) (op : Byte) (a24 : BitVec 24) (args : List Word) (use change : HazardMask) :
    Except Halt State :=
  let c : Cmd := ⟨op ++ a24, args⟩
  match checkOpcode s c with
  | .error h => .error h
  | .ok _ =>
    if maskRefused shape op use change = true then fatal .badMask [use, change]
    else
      match validate s.params c with
      | .error h => .error h
      | .ok _ =>
        let m := writeMasks shape c use change
        let e := expandWrite s.autosyncCfg s.autosync c m.1 m.2
        .ok { s with pq := e.1, autosync := e.2 }

/-- A helper's `write(AUTO, ...)` (42_encoder_autosync.md, section 4). -/
def doHelper (s : State) (op : Byte) (a24 : BitVec 24) (args : List Word) : Except Halt State :=
  doWrite s .auto op a24 args 0 0

/-- An explicit sync (R230). -/
def doSync (s : State) (sync : Cmd) (mask : HazardMask) : Except Halt State :=
  .ok { s with autosync := s.autosync &&& ~~~mask, pq := [.emit sync mask 0] }

/-- `init` (40_ring_buffer.md R150): every element at its value after init, both buffers cleared. -/
def doInit (s : State) : Except Halt State :=
  match ringWrite s .b0 0 (List.replicate (s.params.cap + 1) 0) with
  | .error f => .error (.fault f)
  | .ok s1 =>
    match ringWrite s1 .b1 0 (List.replicate (s.params.cap + 1) 0) with
    | .error f => .error (.fault f)
    | .ok s2 => .ok (initState s s2.mem)

/-- `desc_ok(desc)` (41_overlay_registry.md R190). -/
def descOk (p : Params) (d : DescriptorArg) : Bool :=
  decide (d.codeAddr.toNat < 2 ^ 24) && decide (d.dataAddr.toNat < 2 ^ 24) && decide (d.stateAddr.toNat < 2 ^ 24)
    && functions.all (fun f => decide (d.cmdSize[f] ≤ p.maxCmd))
    && functions.all (fun f => decide (d.cmdSize[f] = 0) == !d.handler.meanings.getLsbD f.val)

/-- The descriptor the registry holds, its addresses at PA_BITS bits (10_state.md R43). -/
def descriptorOf (d : DescriptorArg) : Descriptor where
  codeAddr := lowBits 24 d.codeAddr
  dataAddr := lowBits 24 d.dataAddr
  stateAddr := lowBits 24 d.stateAddr
  codeSize := d.codeSize
  dataSize := d.dataSize
  cmdSize := .client d.cmdSize
  handler := .client d.handler

/-- The registry writes of `register` (R190). -/
def claim (s : State) (id : Fin 16) (d : DescriptorArg) : State :=
  { s with
    ovlValid := s.ovlValid.set id true
    ovlDesc := s.ovlDesc.set id (descriptorOf d)
    ovlState := s.ovlState.set id d.initState
    result := some (wordOfNat id.val) }

/-- `register(desc, id)` (R190). -/
def doRegister (s : State) (d : DescriptorArg) (id : Option Word) : Except Halt State :=
  if descOk s.params d = false then fatal .badDescriptor []
  else
    let free := clientIds.filter (fun i => !s.ovlValid[i])
    match id with
    | none =>
      match free with
      | [] => fatal .ovlTableFull []
      | i :: _ => .ok (claim s i d)
    | some w =>
      if h : w.toNat < 16 then
        if free = [] then fatal .ovlTableFull []
        else if s.ovlValid[w.toNat] = true then fatal .ovlDuplicate [w]
        else .ok (claim s ⟨w.toNat, h⟩ d)
      else fatal .ovlIdRange [w]

/-- `bind(id, sel)` (R192). -/
def doBind (s : State) (id sel : Word) : Except Halt State :=
  if hs : 3 < sel.toNat ∧ sel.toNat < 16 then
    if hi : 2 ≤ id.toNat ∧ id.toNat < 16 then
      if s.ovlValid[id.toNat] = false then fatal .ovlNotRegistered [id]
      else if s.selMap[sel.toNat] ≠ none then fatal .selBound [sel]
      else .ok { s with selMap := s.selMap.set sel.toNat (some ⟨id.toNat, hi.2⟩) }
    else fatal .ovlNotRegistered [id]
  else fatal .selRange [sel]

/-- `reserve(n)` (40_ring_buffer.md R155). -/
def doReserve (s : State) (n : Word) : Except Halt State :=
  if n = 0 ∨ s.params.maxCmd < n.toNat then fatal .oversize [n]
  else .ok { s with resN := n.toNat, stage := List.replicate s.params.maxCmd none }

/-- `store(k, w)` (R156). -/
def doStore (s : State) (k w : Word) : Except Halt State :=
  if s.resN = 0 ∨ s.resN ≤ k.toNat then fatal .reservationState [k]
  else .ok { s with stage := s.stage.set k.toNat (some w) }

/-- `publish()` (R157). -/
def doPublish (s : State) : Except Halt State :=
  match cmdOfWords (stagedWords s 0 s.resN) with
  | none => fatal .reservationState []
  | some c =>
    if missingWords s s.resN ≠ [] then
      fatal .publishIncomplete [wordOfNat (pickMissing s.tick (missingWords s s.resN))]
    else
      match checkOpcode s c with
      | .error h => .error h
      | .ok _ =>
        .ok { s with resN := 0, stage := List.replicate s.params.maxCmd none, pq := [.emit c 0 0] }

/-- `fence(cb, arg)` (42_encoder_autosync.md R232). -/
def doFence (s : State) (cb arg : Nat) : Except Halt State :=
  .ok { s with
    fenceQ := s.fenceQ ++ [.call ⟨cb, arg⟩]
    fenceIssued := s.fenceIssued + 1
    autosync := 0
    pq := [.emit syncFullCmd allMask 0] }

/-- `wait()` (R233). -/
def doWait (s : State) : Except Halt State :=
  .ok { s with
    fenceQ := s.fenceQ ++ [.noCb]
    fenceIssued := s.fenceIssued + 1
    autosync := 0
    pq := [.emit syncFullCmd allMask 0, .waitf (s.fenceIssued + 1)] }

/-- `config(enable, disable)` (R236). -/
def doConfig (s : State) (enable disable : Word) : Except Halt State :=
  if (enable ||| disable) &&& ~~~0b111#32 ≠ 0 then fatal .badMask [enable, disable]
  else .ok { s with
    result := some (s.autosyncCfg.setWidth 32)
    autosyncCfg := (s.autosyncCfg ||| lowBits 3 enable) &&& ~~~lowBits 3 disable }

/-- The opcode of `set_image_dyn`'s kind (R248). -/
def dynOpcode : ImageKind → Byte
  | .color => 0x11
  | .z => 0x12
  | .texture => 0x13

/-- `(format & 0x1F) << 19 | (stride_units & 0x3FF)` (R241). -/
def imageA24 (format strideUnits : Word) : BitVec 24 := lowBits 5 format ++ (0 : BitVec 9) ++ lowBits 10 strideUnits

/-- `q(x) << 12 | q(y)` (R240). -/
def cornerBits (x y : Word) : BitVec 24 := quarterPixel x ++ quarterPixel y

/-- `addr & 0xFFFFFF` (R241). -/
def addrWord (addr : Word) : Word := (0 : Byte) ++ lowBits 24 addr

/-- `(index & 0xF) << 28 | (addr & 0xFFFFFF)` (R246, R248). -/
def indexedWord (index addr : Word) : Word := lowBits 4 index ++ (0 : BitVec 4) ++ lowBits 24 addr

/-- The operation's own checks, immediate writes and micro-steps, after the checks of R154 and R158. -/
def perform (s : State) : PortOp → Except Halt State
  | .init => doInit s
  | .close => .ok { s with pq := [.drain, .closeCommit] }
  | .register d id => doRegister s d id
  | .bind id sel => doBind s id sel
  | .start => .ok { s with lc := .started }
  | .reserve n => doReserve s n
  | .store k w => doStore s k w
  | .publish => doPublish s
  | .write shape op a24 args use change => doWrite s shape op a24 args use change
  | .syncPipe => doSync s syncPipeCmd pipeMask
  | .syncTile => doSync s syncTileCmd tileMask
  | .syncLoad => doSync s syncLoadCmd tmemMask
  | .fence cb arg => doFence s cb arg
  | .wait => doWait s
  | .config enable disable => doConfig s enable disable
  | .scissor x0 y0 x1 y1 => doHelper s 0x2D (cornerBits x0 y0) [(0 : Byte) ++ cornerBits x1 y1]
  | .setColorImage format strideUnits addr => doHelper s 0x3F (imageA24 format strideUnits) [addrWord addr]
  | .fillRectangle x0 y0 x1 y1 => doHelper s 0x36 (cornerBits x1 y1) [(0 : Byte) ++ cornerBits x0 y0]
  | .setFillColor color => doHelper s 0x37 0 [color]
  | .setZImage addr => doHelper s 0x3E 0 [addrWord addr]
  | .setTextureImage format strideUnits addr => doHelper s 0x3D (imageA24 format strideUnits) [addrWord addr]
  | .setLookupAddress index addr => doHelper s 0x10 0 [indexedWord index addr]
  | .modifyOtherModes half mask value => doHelper s 0x14 ((0 : BitVec 23) ++ lowBits 1 half) [mask, value]
  | .setImageDyn kind format strideUnits index offset =>
    doHelper s (dynOpcode kind) (if kind = .z then 0 else imageA24 format strideUnits) [indexedWord index offset]

/-- The issue step of a port operation (40_ring_buffer.md R149): the lifecycle check (R154), the open-reservation check
(R158), then the operation's own (60_exceptions.md R406). -/
def issue (s : State) (op : PortOp) : Except Halt State :=
  match lifecycleFault op s.lc with
  | some code => fatal code []
  | none =>
    if s.resN ≠ 0 ∧ usesReservation op = false then fatal .reservationState []
    else perform s op

/-- EMIT (R160): the command and its terminator are written, the cursor advances, the consumer is signalled, and a SWITCH
is queued if the cursor is past the sentinel. -/
def emitCommand (s : State) (c : Cmd) : Except Halt State :=
  match ringWrite s s.active s.cursor (c.words ++ [0]) with
  | .error f => .error (.fault f)
  | .ok s1 =>
    let s2 := { s1 with cursor := s.cursor + c.size, sig := true, cstate := .run }
    .ok (if s.params.sentinel < s.cursor + c.size then { s2 with switchPending := true, pq := .switch :: s2.pq } else s2)

/-- The JUMP word to a buffer, `{0x02 : trunc_24(BUF_BASE[o])}` (R165). -/
def jumpWord (p : Params) (o : RingBuf) : Word := (encodeCmd (.jump (bufBase p o))).w0

/-- SWITCH with its guard true (R165): the other buffer is cleared, a JUMP to it is written at the cursor, the cursor
moves to its start, and the consumer is signalled. -/
def switchBuffer (s : State) : Except Halt State :=
  match ringWrite s s.active.other 0 (List.replicate (s.params.cap + 1) 0) with
  | .error f => .error (.fault f)
  | .ok s1 =>
    match ringWrite s1 s.active s.cursor [jumpWord s.params s.active.other] with
    | .error f => .error (.fault f)
    | .ok s2 =>
      .ok { s2 with
        active := s.active.other, cursor := 0, switchPending := false, sig := true, cstate := .run }

/-- The micro-step at the head of PQ, `rest` being the list after it (10_state.md R58). A micro-step whose guard is
false stalls: the state does not change (40_ring_buffer.md R149). -/
def microStep (s : State) (m : MicroStep) (rest : List MicroStep) : Except Halt State :=
  match m with
  | .emit c _ _ => emitCommand { s with pq := rest } c
  | .switch => if s.cbuf = s.active then switchBuffer { s with pq := rest } else .ok s
  | .waitf k => if s.fenceDone = k then .ok { s with pq := rest } else .ok s
  | .drain => if drained s = true then .ok { s with pq := rest } else .ok s
  | .closeCommit => .ok (closeCommit s)

/-- The PRODUCER step: the micro-step at the head of PQ, else the issue of the host's next operation (R149, R6), else
nothing to do. -/
def producerStep (s : State) : Except Halt State :=
  match s.pq with
  | m :: rest => microStep s m rest
  | [] =>
    match s.hostOps with
    | [] => .ok s
    | op :: ops => issue { s with hostOps := ops } op

end Sys2Proof.Machine
end

