-- ==== Sys2Proof/Machine/Agents.lean ====
section
/-! DEFINITION. The RASTERIZER and FENCE_IRQ agents (60_exceptions.md R420 to R425), the turns of the four agents
(00_scope.md R5) and their schedule (R434), when the block is quiescent and a run has ended (70_reset_and_hazards.md
R479, R480), and the placing of one command where the consumer fetches next. -/
namespace Sys2Proof.Machine

open Sys2Proof

/-- The RASTERIZER step (R420, R421): the hazard observer, then the completion of the command at the head of RZ_Q. With
an empty queue it has nothing to do. -/
def rasterizerStep (s : State) : Except Halt State :=
  match s.rzQ with
  | [] => .ok s
  | c :: q =>
    if hazardHit s.rzInuse c ≠ 0 then .error (.raise .rzHazard [c.w0, hazardHit s.rzInuse c])
    else .ok { s with
      rzInuse := hazardUpdate s.rzInuse (hzClear c) (hzUse c)
      rzQ := q
      rzLog := s.rzLog ++ [c]
      irqPending := if c.op = 0x29 then s.irqPending + 1 else s.irqPending }

/-- The callbacks a serviced fence entry invokes (R425). -/
def invoked : FenceEntry → List Callback
  | .call c => [c]
  | .noCb => []

/-- The FENCE_IRQ step (R425): the oldest fence completes. With no completion pending it has nothing to do. -/
def fenceStep (s : State) : Except Halt State :=
  match s.irqPending with
  | 0 => .ok s
  | n + 1 =>
    match s.fenceQ with
    | [] => .error (.raise .spuriousFence [])
    | e :: q => .ok { s with
        irqPending := n
        fenceQ := q
        fenceDone := s.fenceDone + 1
        cbLog := s.cbLog ++ invoked e }

/-- One step of one agent. Once FAULT is set no agent has a step (R401). An agent with no enabled step leaves the state
as it is (log 18). -/
def agentStep (a : Agent) (s : State) : Host.Outcome State Fault Refusal :=
  match s.fault with
  | some r => .fault (.halted r)
  | none =>
    match a with
    | .producer => settle .producer s (producerStep s)
    | .consumer => consumerStep s
    | .rasterizer => settle .rasterizer s (rasterizerStep s)
    | .fenceIrq => settle .fenceIrq s (fenceStep s)

/-- The four agents (00_scope.md R5). -/
def agents : List Agent := [.producer, .consumer, .rasterizer, .fenceIrq]

/-- A round of the schedule: the free turns, then those of the agents they leave out, so that every agent has one. -/
def fullRound (free : List Agent) : List Agent := free ++ agents.filter (fun a => !free.contains a)

/-- The turns of the first `r` rounds, in order. -/
def rounds : Nat → List Agent
  | 0 => []
  | r + 1 => rounds r ++ fullRound (Config.round r)

/-- The agent whose turn it is at a tick. In every round each agent has a turn, which is the weak fairness of
60_exceptions.md R434: an agent whose step stays enabled eventually takes it. Nothing else is fixed (log 2, log 20). -/
def schedule (tick : Nat) : Agent := (rounds (tick + 1)).getD tick .producer

/-- The turn that is next: the head of the list, else the one the schedule gives (log 2). -/
def nextTurn (s : State) : Turn :=
  match s.turns with
  | t :: _ => t
  | [] => .agent (schedule s.tick)

/-- The state with that turn taken from the inputs; nothing else changes. -/
def takeTurn (s : State) : State :=
  match s.turns with
  | _ :: ts => { s with turns := ts }
  | [] => { s with tick := s.tick + 1 }

/-- One step of the block: the next turn is an agent's, or a power-on reset. -/
def machineStep (s : State) : Host.Outcome State Fault Refusal :=
  match nextTurn s with
  | .powerOn => .next (powerOnReset (takeTurn s))
  | .agent a => agentStep a (takeTurn s)

/-- The guard of a micro-step; EMIT and CLOSE_COMMIT are always enabled (40_ring_buffer.md R149, R152, R153, R160, R165,
42_encoder_autosync.md R233). -/
def microGuard (s : State) : MicroStep → Bool
  | .emit _ _ _ => true
  | .switch => decide (s.cbuf = s.active)
  | .waitf k => decide (s.fenceDone = k)
  | .drain => drained s
  | .closeCommit => true

/-- The agent has an enabled step (60_exceptions.md R401, R420, R425, R434, 43_consumer_dispatch.md R260): no fault is
recorded and its guard holds. For PRODUCER it is the micro-step at the head of PQ; the issue of a port operation is the
host's to start (00_scope.md R6), see `issuePending`. -/
def enabled (s : State) (a : Agent) : Bool :=
  decide (s.fault = none) &&
    match a with
    | .producer =>
      match s.pq with
      | m :: _ => microGuard s m
      | [] => false
    | .consumer => decide (s.cstate = .run)
    | .rasterizer => decide (s.rzQ ≠ [])
    | .fenceIrq => decide (0 < s.irqPending)

/-- The host has an operation to issue and PRODUCER can take it (40_ring_buffer.md R149). -/
def issuePending (s : State) : Bool :=
  decide (s.fault = none) && decide (s.pq = []) && decide (s.hostOps ≠ [])

/-- The block is quiescent (70_reset_and_hazards.md R479): no agent has an enabled step and PQ is empty. With FAULT set
no agent has one (60_exceptions.md R401). -/
def quiescent (s : State) : Bool := decide (s.pq = []) && agents.all (fun a => !enabled s a)

/-- The run has ended (70_reset_and_hazards.md R480): the host has no further operations and the block is quiescent, or a
fault halts it. -/
def runEnded (s : State) : Bool := decide (s.fault ≠ none) || (decide (s.hostOps = []) && quiescent s)

/-- The observable result of a run (70_reset_and_hazards.md R480). -/
structure RunResult where
  /-- RZ_LOG, the delivered stream -/
  delivered : List Cmd
  /-- CB_LOG, the callbacks invoked -/
  callbacks : List Callback
  /-- FAULT -/
  fault     : Option FaultRecord
  /-- the final state, ring memory included -/
  final     : State
deriving DecidableEq, Repr

/-- The result of a run that has ended in `s`; `none` while it has not (R480). -/
def runResult (s : State) : Option RunResult :=
  if runEnded s = true then some ⟨s.rzLog, s.cbLog, s.fault, s⟩ else none

/-- The descriptor of the client overlay that placeCommand binds (log 3): every function of one word, and a handler that
on the command `c` and the empty state forwards nothing. -/
def placedDescriptor (c : Cmd) : Descriptor :=
  { noDescriptor with
    cmdSize := .client (Vector.replicate 16 1)
    handler := .client ⟨0, BitVec.allOnes 16, [⟨c.op, c, [], .ok [] []⟩]⟩ }

/-- The selector of `op` bound, as `init` (R451) or `register` and `bind` (R190, R192) would leave it, if it is not
bound already. -/
def bindSelector (s : State) (op : Byte) (c : Cmd) : State :=
  match s.selMap[selOf op] with
  | some _ => s
  | none =>
    if selOf op = 0 then s
    else if selOf op < 4 then { s with selMap := s.selMap.set (selOf op) (some 1) }
    else { s with
      selMap := s.selMap.set (selOf op) (some 2)
      ovlValid := s.ovlValid.set 2 true
      ovlDesc := s.ovlDesc.set 2 (placedDescriptor c)
      ovlState := s.ovlState.set 2 [] }

/-- The words of the command a table row names, at the size its opcode has in `s` (at least word 0). -/
def placedWords (s : State) (nbits w : Nat) : List Word :=
  tableWords (w % 2 ^ nbits) 0 (max 1 ((decodeSize s (field 24 8 (tableWord (w % 2 ^ nbits) 0))).getD 1))

/-- Places the command of a table row where the consumer fetches next, and gives the consumer the next turn: its
selector bound, no fault recorded, the consumer running, its position at word 0 of its buffer if the command does not
fit where it stands (log 3). -/
def placeCommand (s : State) (nbits w : Nat) : State :=
  let w0 := tableWord (w % 2 ^ nbits) 0
  let s1 := bindSelector s (field 24 8 w0) ⟨w0, []⟩
  let ws := placedWords s1 nbits w
  let p := if s1.params.cap < s1.rpos + ws.length then 0 else s1.rpos
  { s1 with
    mem := memWriteWords s1.mem (ringAddr s1.params s1.cbuf p) ws
    rpos := p
    fault := none
    cstate := .run
    turns := .agent .consumer :: s1.turns }

end Sys2Proof.Machine
end

