-- ==== Sys2Proof/Machine/Step.lean ====
section
/-! DEFINITION. One step of the block, and the placing of one command for the host's checks. -/
namespace Sys2Proof.Machine

open Sys2Proof

/-- One step: the next turn's agent takes its step (00_scope.md R5). -/
def step (s : State) : Host.Outcome State Fault Refusal := machineStep s

/-- The state in which the very next step fetches and runs the command of a table row (log 3). -/
def State.withFetchWord (s : State) (nbits w : Nat) : State := placeCommand s nbits w

end Sys2Proof.Machine
end

