-- ==== Sys2Proof/Safety.lean ====
section
/-! DEFINITION. What the statements about the block are written in: when an agent's step runs, the state a fault leaves,
and the invariants of a safe run (10_state.md, 40_ring_buffer.md R162 and R170, 42_encoder_autosync.md R222,
70_reset_and_hazards.md R478). -/
namespace Sys2Proof.Machine

open Sys2Proof

/-- The next step is one of agent `a`, and the block is not halted. -/
abbrev AgentTurn (s : State) (a : Agent) : Prop := nextTurn s = .agent a ∧ s.fault = none

/-- The next step is PRODUCER's issue step of `op`, with `ops` the operations after it (40_ring_buffer.md R149). -/
abbrev Issues (s : State) (op : PortOp) (ops : List PortOp) : Prop :=
  AgentTurn s .producer ∧ s.pq = [] ∧ s.hostOps = op :: ops

/-- The next step is PRODUCER's micro-step `m`, with `rest` the micro-steps after it (40_ring_buffer.md R149). -/
abbrev Runs (s : State) (m : MicroStep) (rest : List MicroStep) : Prop :=
  AgentTurn s .producer ∧ s.pq = m :: rest

/-- The state that a fault of agent `a` leaves: the state before the step, its turn taken, plus FAULT
(60_exceptions.md R401). -/
def faulted (s : State) (a : Agent) (code : FaultCode) (info : List Word) : State :=
  { takeTurn s with fault := some ⟨code.cls, code, a, info⟩ }

/-- The state before an issue step, its turn and its operation taken. -/
def issued (s : State) (ops : List PortOp) : State := { takeTurn s with hostOps := ops }

/-- The operations of the row `reserve ... wait` of 40_ring_buffer.md R154. -/
def ringOperation : PortOp → Bool
  | .init => false
  | .close => false
  | .register _ _ => false
  | .bind _ _ => false
  | .start => false
  | .config _ _ => false
  | _ => true

/-- The cells `allowed` of the table of 40_ring_buffer.md R154. -/
def admits : Lifecycle → PortOp → Bool
  | .uninit, op => decide (op = .init)
  | .ready, op => decide (op ≠ .init) && !ringOperation op
  | .started, .config _ _ => true
  | .started, .close => true
  | .started, op => ringOperation op

/-- The fault in the other cells of the table of 40_ring_buffer.md R154. -/
def refusal (lc : Lifecycle) (op : PortOp) : FaultCode :=
  if lc = .uninit then .notInit
  else if op = .init then .alreadyInit
  else if lc = .ready then .notStarted
  else .afterStart

/-- The operations an open reservation does not exclude (40_ring_buffer.md R158). -/
def regionOperation : PortOp → Bool
  | .store _ _ => true
  | .publish => true
  | _ => false

/-- The outcome of an issue step whose lifecycle state or open reservation refuses it, else `k` (40_ring_buffer.md R154,
R158, 60_exceptions.md R406). -/
def gate (s : State) (op : PortOp) (k : State) : State :=
  if admits s.lc op = false then faulted s .producer (refusal s.lc op) []
  else if s.resN ≠ 0 ∧ regionOperation op = false then faulted s .producer .reservationState []
  else k

/-- A built-in command of overlay 1 (selectors 1 to 3) at the consumer's position that nothing stops: its selector is
bound to overlay 1, its `n` words end before the guard word (43_consumer_dispatch.md R260), and RZ_Q has room for the
`k` commands it forwards (R277). -/
abbrev CommandReady (s : State) (i : Instr) (k : Nat) : Prop :=
  s.selMap[selOf i.opcode] = some 1 ∧ s.rpos + i.length ≤ s.params.cap ∧ s.rzQ.length + k ≤ s.params.rzqCap

/-- The state after a built-in command of `n` words that forwards the one command `c`. -/
def forwarded (s : State) (n : Nat) (c : Cmd) : State :=
  { s with rzQ := s.rzQ ++ [c], curOvl := 1, rpos := s.rpos + n }

/-- A client command of `n` words bound to the client overlay `id` with handler `h`, at the consumer's position
(43_consumer_dispatch.md R260, R275). -/
abbrev ClientReady (s : State) (op : Byte) (n : Nat) (id : Fin 16) (h : Handler) : Prop :=
  s.selMap[selOf op] = some id ∧ id ≠ 1 ∧ descSize s.ovlDesc[id] op = n ∧ s.rpos + n ≤ s.params.cap
    ∧ s.ovlDesc[id].handler = .client h

/-- The twelve client commands with the same operands, one for each selector 4 to 15 (30_encoding.md R111). -/
def clientForms (fn : BitVec 4) (a24 : BitVec 24) (args : List Word) : List Instr :=
  [.clientSel4 fn a24 args, .clientSel5 fn a24 args, .clientSel6 fn a24 args, .clientSel7 fn a24 args,
    .clientSel8 fn a24 args, .clientSel9 fn a24 args, .clientSel10 fn a24 args, .clientSel11 fn a24 args,
    .clientSel12 fn a24 args, .clientSel13 fn a24 args, .clientSel14 fn a24 args, .clientSel15 fn a24 args]

/-- A command a client handler may forward: a fixed command of its size, and no SYNC_FULL (43_consumer_dispatch.md
R275). -/
abbrev Forwardable (d : Cmd) : Prop := (selOf d.op = 2 ∨ selOf d.op = 3) ∧ builtinSize d.op = d.size ∧ d.op ≠ 0x29

/-- The words of a list of commands, in order. -/
def flatWords : List Cmd → List Word
  | [] => []
  | c :: cs => c.words ++ flatWords cs

/-- The commands of the EMIT micro-steps of a list, in order. -/
def emitsOf : List MicroStep → List Cmd
  | [] => []
  | .emit c _ _ :: ms => c :: emitsOf ms
  | _ :: ms => emitsOf ms

/-- How many of the commands are SYNC_FULL. -/
def syncFulls (cs : List Cmd) : Nat := cs.countP (fun c => decide (c.op = 0x29))

/-- The descriptor of a client overlay, as `desc_ok` admits it (41_overlay_registry.md R190). -/
def clientDescOk (p : Params) (d : Descriptor) : Bool :=
  match d.cmdSize, d.handler with
  | .client sizes, .client h =>
    functions.all (fun f => decide (sizes[f] ≤ p.maxCmd))
      && functions.all (fun f => decide (sizes[f] = 0) == !h.meanings.getLsbD f.val)
  | _, _ => false

/-- What every step keeps of the state itself. -/
structure StateInv (s : State) : Prop where
  /-- the parameters meet the constraints of 00_scope.md R10 -/
  params : s.params.valid = true
  /-- memory is in its canonical form -/
  memory : memWf s.mem = true
  /-- bits 31:11 of a hazard mask are always 0 (10_state.md R50) -/
  autosync : s.autosync &&& ~~~allMask = 0
  /-- as for AUTOSYNC -/
  rzInuse : s.rzInuse &&& ~~~allMask = 0
  /-- LOOKUP[0] is hardwired to 0 (10_state.md R46) -/
  lookup : s.lookup[0] = 0
  /-- RZ_Q holds at most RZQ_CAP commands (10_state.md R54) -/
  rzQ : s.rzQ.length ≤ s.params.rzqCap
  /-- CURSOR is in 0..CAP (10_state.md R34) -/
  cursor : s.cursor ≤ s.params.cap
  /-- CURSOR is past SENTINEL only while a switch is pending (40_ring_buffer.md R162, R170) -/
  sentinel : s.switchPending = false → s.cursor ≤ s.params.sentinel
  /-- RES_N is in 0..MAX_CMD (10_state.md R36) -/
  resN : s.resN ≤ s.params.maxCmd
  /-- STAGE has MAX_CMD entries (10_state.md R36) -/
  stage : s.stage.length = s.params.maxCmd
  /-- no operation that queues micro-steps is admitted under an open reservation (40_ring_buffer.md R158) -/
  reservation : s.resN ≠ 0 → s.pq = []
  /-- before `init` nothing is queued and the consumer is idle -/
  uninit : s.lc = .uninit → s.pq = [] ∧ s.cstate = .idle
  /-- overlays 0 and 1, and selectors 0 to 3, are as `init` left them (41_overlay_registry.md R193) -/
  builtins : s.lc ≠ .uninit →
    s.ovlValid[0] = true ∧ s.ovlValid[1] = true
      ∧ s.ovlDesc[0] = internalDescriptor ∧ s.ovlDesc[1] = builtinDescriptor
      ∧ s.selMap[0] = some 0 ∧ s.selMap[1] = some 1 ∧ s.selMap[2] = some 1 ∧ s.selMap[3] = some 1
  /-- a selector is bound to a registered overlay only (41_overlay_registry.md R192) -/
  bound : ∀ sel id : Fin 16, s.selMap[sel] = some id → s.ovlValid[id] = true
  /-- selectors 4 to 15 are bound to client overlays only (41_overlay_registry.md R192) -/
  clients : ∀ sel id : Fin 16, 4 ≤ sel → s.selMap[sel] = some id → 2 ≤ id
  /-- the descriptor of a registered client overlay passed `desc_ok` (41_overlay_registry.md R190) -/
  descriptors : ∀ id : Fin 16, 2 ≤ id → s.ovlValid[id] = true → clientDescOk s.params s.ovlDesc[id] = true

/-- A command the producer may put in the ring (40_ring_buffer.md R157): of a bound, valid opcode that is not TERMINATOR
or JUMP, and exactly the size of that opcode. -/
structure Emittable (s : State) (c : Cmd) : Prop where
  size : opSize s c.op = some c.size
  maxCmd : c.size ≤ s.params.maxCmd
  terminator : c.op ≠ 0x00
  jump : c.op ≠ 0x02

/-- The ring invariant (40_ring_buffer.md R170): `q` is the list of the commands emitted and not yet executed. -/
structure RingInv (s : State) (q : List Cmd) : Prop where
  /-- before `start` nothing has been emitted and the consumer is idle (43_consumer_dispatch.md R280) -/
  notStarted : s.lc ≠ .started → q = [] ∧ s.cstate = .idle ∧ ∀ m ∈ s.pq, m = .drain ∨ m = .closeCommit
  /-- R170, 1 -/
  terminator : s.lc ≠ .uninit → ringRead s s.active s.cursor = .ok 0
  /-- R170, 3 -/
  here : s.lc ≠ .uninit → s.cbuf = s.active →
    s.rpos + (flatWords q).length = s.cursor
      ∧ ringReads s s.active s.rpos (flatWords q).length = .ok (flatWords q)
  /-- R170, 4 -/
  behind : s.lc ≠ .uninit → s.cbuf ≠ s.active →
    ∃ q1 q2, q = q1 ++ q2
      ∧ ringReads s s.cbuf s.rpos ((flatWords q1).length + 1)
          = .ok (flatWords q1 ++ [jumpWord s.params s.active])
      ∧ ringReads s s.active 0 (flatWords q2).length = .ok (flatWords q2)
      ∧ (flatWords q2).length = s.cursor
  /-- every command of the ring can be executed (R157) -/
  commands : ∀ c ∈ q, Emittable s c
  /-- so can every command still to be emitted -/
  queued : ∀ c ∈ emitsOf s.pq, Emittable s c
  /-- an idle consumer faces the terminator at the cursor, with no signal pending (43_consumer_dispatch.md R262, R279) -/
  idle : s.lc ≠ .uninit → s.cstate = .idle → s.sig = false ∧ s.cbuf = s.active ∧ q = []
  /-- SWITCH_PENDING is set exactly while a SWITCH is the next micro-step (10_state.md R35) -/
  switch : s.switchPending = true ↔ s.pq.head? = some .switch
  /-- and no other SWITCH waits behind it -/
  oneSwitch : .switch ∉ s.pq.tail
  /-- CLOSE_COMMIT runs only after DRAIN, in a drained block (40_ring_buffer.md R152) -/
  close : .closeCommit ∈ s.pq →
    s.pq = [.drain, .closeCommit] ∨ (s.pq = [.closeCommit] ∧ drained s = true)

/-- The fence invariant (60_exceptions.md R425): each entry of FENCE_Q has its SYNC_FULL still to come or its completion
pending. -/
structure FenceInv (s : State) (q : List Cmd) : Prop where
  entries : s.fenceQ.length = s.irqPending + syncFulls (s.rzQ ++ q ++ emitsOf s.pq)
  counters : s.fenceIssued = s.fenceDone + wordOfNat s.fenceQ.length
  waiting : ∀ k, .waitf k ∈ s.pq → k = s.fenceIssued
  /-- a WAITF is the last micro-step of its `wait`, after the EMIT of the SYNC_FULL it waits for
  (42_encoder_autosync.md R233) -/
  waitLast : ∀ k, .waitf k ∉ s.pq.dropLast

/-- A safe run: the invariants of the state, of the ring and of the fences hold together. -/
def RunInv (s : State) : Prop := StateInv s ∧ ∃ q, RingInv s q ∧ FenceInv s q

/-- The observer's masks along a list of commands, from the mask `m` on: no command changes a resource in use
(60_exceptions.md R421). -/
def hazardFree (m : HazardMask) : List Cmd → Prop
  | [] => True
  | c :: cs => hazardHit m c = 0 ∧ hazardFree (hazardUpdate m (hzClear c) (hzUse c)) cs

/-- The observer's mask after a list of commands (60_exceptions.md R421). -/
def inuseAfter (m : HazardMask) : List Cmd → HazardMask
  | [] => m
  | c :: cs => inuseAfter (hazardUpdate m (hzClear c) (hzUse c)) cs

/-- An operation that leaves the tracker in charge (42_encoder_autosync.md R222): built-in commands are written with AUTO
or with masks at least those of the hazard table, no raw `publish`, no client command, and no class is disabled. -/
def tracked : PortOp → Prop
  | .publish => False
  | .config _ disable => disable = 0
  | .write shape op a24 args use change =>
    selOf op < 4 ∧
      (shape = .auto ∨ (hzUse ⟨op ++ a24, args⟩ &&& ~~~use = 0 ∧ hzChange ⟨op ++ a24, args⟩ &&& ~~~change = 0))
  | _ => True

/-- The tracker's invariant (42_encoder_autosync.md R222): every class is enabled, every operation still to come is
tracked, and along everything the rasterizer has still to receive no command changes a resource in use, AUTOSYNC
covering what is in use at the end of it. -/
structure TrackerInv (s : State) (q : List Cmd) : Prop where
  enabled : s.autosyncCfg = 0b111
  host : ∀ op ∈ s.hostOps, tracked op
  builtin : ∀ c ∈ q ++ emitsOf s.pq, selOf c.op < 4
  free : hazardFree s.rzInuse (s.rzQ ++ q ++ emitsOf s.pq)
  covered : inuseAfter s.rzInuse (s.rzQ ++ q ++ emitsOf s.pq) &&& ~~~s.autosync = 0

/-- `n` steps from `s`, one turn each, stopping at the first that has no next state. -/
def runFor : Nat → State → Host.Outcome State Fault Refusal
  | 0, s => .next s
  | n + 1, s =>
    match step s with
    | .next t => runFor n t
    | o => o

/-- The result of the run from `s` if it ends within `n` steps (70_reset_and_hazards.md R480). -/
def runToEnd : Nat → State → Option RunResult
  | 0, s => runResult s
  | n + 1, s =>
    match runResult s with
    | some r => some r
    | none =>
      match step s with
      | .next t => runToEnd n t
      | _ => none

end Sys2Proof.Machine
end

