-- ==== Sys2Proof/WellFormed.lean ====
section
/-! DEFINITION. When a command term is well formed: the words it has are as many as its opcode takes (30_encoding.md
R112), and it fits MAX_CMD (R110). -/
namespace Sys2Proof

/-- Well formed under a size table and MAX_CMD: the opcode has a size, the term has exactly that many words, and they
are at most MAX_CMD (R110, R112). Every fixed-width operand is in range by its type. -/
def Instr.wellFormed (size : Byte → Option Nat) (maxCmd : Nat) (i : Instr) : Bool :=
  decide (size i.opcode = some i.length) && decide (i.length ≤ maxCmd)

end Sys2Proof
end

