-- ==== Sys2Proof/Certificates/Slice0/Obligations.lean ====
section
/-! DEFINITION. The statements for the provers. Each docstring names the rule of spec/ that the statement formalises. -/

open Sys2Proof Sys2Proof.Machine

/-! ### Encoding -/

/-- 30_encoding.md R110 to R117: decoding the bytes of a well-formed command, under any size table, gives the command
back and leaves the bytes that follow it. -/
def Obligations.DecodeOfEncode : Prop :=
  ∀ (size : Byte → Option Nat) (maxCmd : Nat) (i : Instr) (bs : List Byte),
    i.wellFormed size maxCmd = true → decode size (encodeBytes i ++ bs) = .ok (i, bs)

/-- 30_encoding.md R112, R122: the decoder drops no bit. What it reads, encoded again, is the bytes it read, and the
command has the size its opcode has. -/
def Obligations.EncodeOfDecode : Prop :=
  ∀ (size : Byte → Option Nat) (bs rest : List Byte) (i : Instr),
    decode size bs = .ok (i, rest) → encodeBytes i ++ rest = bs ∧ size i.opcode = some i.length

/-- 20_memory.md R80, 30_encoding.md R114 to R117: words written out from the encoding tables decode to the commands
they stand for (the examples of R263, R264, R370, R372, R376, R240, R242 and 44_rasterizer_commands.md R301). -/
def Obligations.DecodingOfSampleWords : Prop :=
  decode tableSize [0x01, 0x00, 0x00, 0x00] = .ok (.noop 0, [])
    ∧ decode tableSize [0x02, 0x00, 0x20, 0x00] = .ok (.jump 0x002000, [])
    ∧ decode tableSize [0x10, 0x00, 0x00, 0x00, 0x30, 0x10, 0x00, 0x00] = .ok (.setLookupAddress 0 3 0 0x100000, [])
    ∧ decode tableSize [0x11, 0x10, 0x01, 0x40, 0x30, 0x00, 0x08, 0x00]
        = .ok (.setColorImageDyn 2 0 320 3 0 0x000800, [])
    ∧ decode tableSize [0x14, 0x00, 0x00, 0x01, 0x00, 0x00, 0xFF, 0xFF, 0x12, 0x34, 0x56, 0x78]
        = .ok (.modifyOtherModes 0 1 0x0000FFFF 0x12345678, [])
    ∧ decode tableSize [0x24, 0x05, 0x00, 0x50, 0x01, 0x00, 0x00, 0x00, 0, 0, 0, 0, 0x04, 0x00, 0x04, 0x00]
        = .ok (.textureRectangle 0x050 0x050 0 1 0 0 0 0 0x0400 0x0400, [])
    ∧ decode tableSize [0x2D, 0x02, 0x80, 0x28, 0x00, 0x07, 0x80, 0x78]
        = .ok (.setScissor 0x028 0x028 0 0x078 0x078, [])
    ∧ decode tableSize [0x36, 0x07, 0x80, 0x78, 0x00, 0x02, 0x80, 0x28]
        = .ok (.fillRectangle 0x078 0x078 0 0x028 0x028, [])
    ∧ decode tableSize [0x31, 0x00, 0x00, 0x00, 0x00, 0x00, 0x00, 0x00] = .error (.invalidOpcode 0x31)

/-! ### The consumer's step -/

/-- 43_consumer_dispatch.md R260: with the words of a well-formed command in the ring at the consumer's position, the
CONSUMER step is the meaning of that command on the state with the turn taken. -/
def Obligations.StepRunsDecodedInstruction : Prop :=
  ∀ (s : State) (i : Instr),
    AgentTurn s .consumer → s.cstate = .run →
    i.wellFormed (decodeSize s) s.params.maxCmd = true →
    ringReads s s.cbuf s.rpos i.length = .ok (encode i) →
    (selOf i.opcode = 0 ∨ s.rpos + i.length ≤ s.params.cap) →
    step s = exec i (takeTurn s)

/-- 43_consumer_dispatch.md R266, R267, R268, in the order of R260: at the consumer's position, an opcode of an unbound
selector, an opcode of size 0 and a command that passes word CAP-1 each halt the block with the fault and the info the
rule gives. -/
def Obligations.DecodeFaultsInOrder : Prop :=
  ∀ (s : State) (w0 : Word),
    AgentTurn s .consumer → s.cstate = .run → ringRead s s.cbuf s.rpos = .ok w0 →
    let op : Byte := w0.extractLsb' 24 8
    let info : List Word := [op.setWidth 32, s.cbuf.index, wordOfNat s.rpos]
    (selOf op = 0 → 0x03 ≤ op.toNat → step s = .next (faulted s .consumer .invalidOpcode info))
      ∧ (selOf op ≠ 0 → s.selMap[selOf op] = none → step s = .next (faulted s .consumer .unboundSelector info))
      ∧ (∀ id, selOf op ≠ 0 → s.selMap[selOf op] = some id → opSize s op = some 0 →
          step s = .next (faulted s .consumer .invalidOpcode info))
      ∧ (∀ id n, selOf op ≠ 0 → s.selMap[selOf op] = some id → opSize s op = some (n + 1) →
          s.params.cap < s.rpos + (n + 1) → step s = .next (faulted s .consumer .ringOverrun info))

/-- 60_exceptions.md R434, with the guards of 40_ring_buffer.md R149, 43_consumer_dispatch.md R260 and R279,
60_exceptions.md R401, R420 and R425: an agent has an enabled step exactly when no fault is recorded and its guard holds.
The turn of an agent without one changes nothing (an idle consumer, an empty RZ_Q, no pending completion, a stalled
micro-step), unless it is PRODUCER's and the host has an operation to issue. -/
def Obligations.AgentsStepOnlyAsGuardsAllow : Prop :=
  (∀ s : State,
      (enabled s .producer = true ↔ s.fault = none ∧ ∃ m rest, s.pq = m :: rest
        ∧ (m = .switch → s.cbuf = s.active)
        ∧ (∀ k, m = .waitf k → s.fenceDone = k)
        ∧ (m = .drain → drained s = true))
      ∧ (enabled s .consumer = true ↔ s.fault = none ∧ s.cstate = .run)
      ∧ (enabled s .rasterizer = true ↔ s.fault = none ∧ s.rzQ ≠ [])
      ∧ (enabled s .fenceIrq = true ↔ s.fault = none ∧ 0 < s.irqPending))
    ∧ ∀ (s : State) (a : Agent), AgentTurn s a → enabled s a = false → (a = .producer → issuePending s = false) →
      step s = .next (takeTurn s)

/-- 43_consumer_dispatch.md R262: a TERMINATOR, whatever its ignored bits, consumes a pending signal, and without one
idles the consumer. Nothing else changes, the position included. -/
def Obligations.TerminatorConsumesSignalOrIdles : Prop :=
  ∀ (s : State) (ignored : BitVec 24),
    (s.sig = true → exec (.terminator ignored) s = .next { s with sig := false })
      ∧ (s.sig = false → exec (.terminator ignored) s = .next { s with cstate := .idle })

/-- 43_consumer_dispatch.md R263: a NOOP, whatever its ignored bits, moves the position by one word and changes nothing
else. -/
def Obligations.NoopAdvancesByOneWord : Prop :=
  ∀ (s : State) (ignored : BitVec 24), exec (.noop ignored) s = .next { s with rpos := s.rpos + 1 }

/-- 43_consumer_dispatch.md R264: a JUMP to the base of the other buffer moves the position to its word 0; any other
target faults with BAD_JUMP and moves nothing. -/
def Obligations.JumpMovesToOtherBufferOrFaults : Prop :=
  ∀ (s : State) (target : BitVec 24), s.fault = none →
    (target = bufBase s.params s.cbuf.other →
        exec (.jump target) s = .next { s with cbuf := s.cbuf.other, rpos := 0 })
      ∧ (target ≠ bufBase s.params s.cbuf.other →
        exec (.jump target) s = .next { s with
          fault := some ⟨.contract, .badJump, .consumer, [0x02#8 ++ target, s.cbuf.index, wordOfNat s.rpos]⟩ })

/-! ### The dynamic commands -/

/-- 45_fixup_commands.md R370: SET_LOOKUP_ADDRESS writes LOOKUP[index], unless index is 0, and forwards nothing; RZ_Q
needs no room. -/
def Obligations.SetLookupAddressWritesEntry : Prop :=
  ∀ (s : State) (ignored0 : BitVec 24) (index ignored1 : BitVec 4) (addr : BitVec 24),
    CommandReady s (.setLookupAddress ignored0 index ignored1 addr) 0 →
    exec (.setLookupAddress ignored0 index ignored1 addr) s
      = .next { s with
          lookup := if index = 0 then s.lookup else s.lookup.set index.toFin addr
          curOvl := 1
          rpos := s.rpos + 2 }

/-- 45_fixup_commands.md R371, R372, R373, R374: each dynamic set-image command forwards its fixed command, bits 23:0 of
word 0 copied and the address (LOOKUP[index] + offset) mod 2^24, with entry 0 read as 0. -/
def Obligations.DynamicImagesForwardResolvedAddress : Prop :=
  ∀ (s : State) (format : BitVec 5) (opaque0 : BitVec 9) (strideUnits : BitVec 10) (opaqueZ : BitVec 24)
    (index ignored1 : BitVec 4) (offset : BitVec 24),
    let addr : BitVec 24 := (if index = 0 then 0 else s.lookup[index.toFin]) + offset
    (CommandReady s (.setColorImageDyn format opaque0 strideUnits index ignored1 offset) 1 →
        exec (.setColorImageDyn format opaque0 strideUnits index ignored1 offset) s
          = .next (forwarded s 2 ⟨0x3F#8 ++ format ++ opaque0 ++ strideUnits, [0#8 ++ addr]⟩))
      ∧ (CommandReady s (.setZImageDyn opaqueZ index ignored1 offset) 1 →
        exec (.setZImageDyn opaqueZ index ignored1 offset) s
          = .next (forwarded s 2 ⟨0x3E#8 ++ opaqueZ, [0#8 ++ addr]⟩))
      ∧ (CommandReady s (.setTextureImageDyn format opaque0 strideUnits index ignored1 offset) 1 →
        exec (.setTextureImageDyn format opaque0 strideUnits index ignored1 offset) s
          = .next (forwarded s 2 ⟨0x3D#8 ++ format ++ opaque0 ++ strideUnits, [0#8 ++ addr]⟩))

/-- 45_fixup_commands.md R375 (an inference of the spec): with the same entry, two dynamic commands' addresses differ by
the difference of their offsets, and no command but a SET_LOOKUP_ADDRESS of that index changes the entry
(43_consumer_dispatch.md R274). -/
def Obligations.IdenticalResolution : Prop :=
  (∀ (s₁ s₂ : State) (index : BitVec 4) (o₁ o₂ : Addr), s₁.lookup[index.toFin] = s₂.lookup[index.toFin] →
      resolve s₁ index o₁ - resolve s₂ index o₂ = o₁ - o₂)
    ∧ ∀ (i : Instr) (s t : State) (index : BitVec 4), exec i s = .next t →
      (∀ ignored0 ignored1 addr, i ≠ .setLookupAddress ignored0 index ignored1 addr) →
      t.lookup[index.toFin] = s.lookup[index.toFin]

/-- 45_fixup_commands.md R376: MODIFY_OTHER_MODES merges value under mask into the half it names, forwards the whole
SET_OTHER_MODES, and the persisted mode becomes what was forwarded. -/
def Obligations.ModifyOtherModesMerges : Prop :=
  ∀ (s : State) (ignored0 : BitVec 23) (half : BitVec 1) (mask value : BitVec 32),
    CommandReady s (.modifyOtherModes ignored0 half mask value) 1 →
    let m : BitVec 24 := mask.extractLsb' 0 24
    let v : BitVec 24 := value.extractLsb' 0 24
    let hi : BitVec 24 := if half = 0 then (s.omHi &&& ~~~m) ||| (v &&& m) else s.omHi
    let lo : BitVec 32 := if half = 0 then s.omLo else (s.omLo &&& ~~~mask) ||| (value &&& mask)
    exec (.modifyOtherModes ignored0 half mask value) s
      = .next { forwarded s 3 ⟨0x2F#8 ++ hi, [lo]⟩ with omHi := hi, omLo := lo }

/-! ### The fixed commands -/

/-- 44_rasterizer_commands.md R300, R301: TEXTURE_RECTANGLE is forwarded word for word, in every mode. -/
def Obligations.TextureRectangleIsForwarded : Prop :=
  ∀ (s : State) (xl yl : BitVec 12) (opaque1 : BitVec 5) (tile : BitVec 3) (xh yh : BitVec 12)
    (texS texT dsdx dtdy : BitVec 16),
    CommandReady s (.textureRectangle xl yl opaque1 tile xh yh texS texT dsdx dtdy) 1 →
    exec (.textureRectangle xl yl opaque1 tile xh yh texS texT dsdx dtdy) s
      = .next (forwarded s 4 ⟨0x24#8 ++ xl ++ yl, [opaque1 ++ tile ++ xh ++ yh, texS ++ texT, dsdx ++ dtdy]⟩)

/-- 44_rasterizer_commands.md R302, 43_consumer_dispatch.md R276: TEXTURE_RECTANGLE_FLIP is forwarded word for word
unless the cycle type, bits 21:20 of OM_HI, is 2 (COPY); then it faults with FLIP_IN_COPY, a full RZ_Q included. -/
def Obligations.FlipIsForwardedUnlessCopyMode : Prop :=
  ∀ (s : State) (xl yl : BitVec 12) (opaque1 : BitVec 5) (tile : BitVec 3) (xh yh : BitVec 12)
    (texS texT dsdx dtdy : BitVec 16),
    s.fault = none →
    let i : Instr := .textureRectangleFlip xl yl opaque1 tile xh yh texS texT dsdx dtdy
    (CommandReady s i 1 → s.omHi.extractLsb' 20 2 ≠ 2#2 →
        exec i s = .next (forwarded s 4
          ⟨0x25#8 ++ xl ++ yl, [opaque1 ++ tile ++ xh ++ yh, texS ++ texT, dsdx ++ dtdy]⟩))
      ∧ (s.selMap[selOf i.opcode] = some 1 → s.rpos + 4 ≤ s.params.cap → s.omHi.extractLsb' 20 2 = 2#2 →
        exec i s = .next { s with fault := some ⟨.contract, .flipInCopy, .consumer, [0x25#8 ++ xl ++ yl]⟩ })

/-- 44_rasterizer_commands.md R300, R304 to R307: the four synchronisation commands are forwarded word for word; the
consumer changes no hazard mask. -/
def Obligations.SyncCommandsAreForwarded : Prop :=
  ∀ (s : State) (zero0 : BitVec 24) (zero1 : BitVec 32) (i : Instr) (c : Cmd),
    (i, c) ∈ ([(.syncLoad zero0 zero1, ⟨0x26#8 ++ zero0, [zero1]⟩),
      (.syncPipe zero0 zero1, ⟨0x27#8 ++ zero0, [zero1]⟩),
      (.syncTile zero0 zero1, ⟨0x28#8 ++ zero0, [zero1]⟩),
      (.syncFull zero0 zero1, ⟨0x29#8 ++ zero0, [zero1]⟩)] : List (Instr × Cmd)) →
    CommandReady s i 1 → exec i s = .next (forwarded s 2 c)

/-- 44_rasterizer_commands.md R300, R310 to R314: the mode and state commands other than SET_OTHER_MODES are forwarded
word for word. -/
def Obligations.ModeCommandsAreForwarded : Prop :=
  ∀ (s : State) (a : BitVec 24) (w : BitVec 32) (x0 y0 x1 y1 : BitVec 12) (opaque1 : BitVec 8) (i : Instr) (c : Cmd),
    (i, c) ∈ ([(.setKeyGb a w, ⟨0x2A#8 ++ a, [w]⟩),
      (.setKeyR a w, ⟨0x2B#8 ++ a, [w]⟩),
      (.setConvert a w, ⟨0x2C#8 ++ a, [w]⟩),
      (.setScissor x0 y0 opaque1 x1 y1, ⟨0x2D#8 ++ x0 ++ y0, [opaque1 ++ x1 ++ y1]⟩),
      (.setPrimDepth a w, ⟨0x2E#8 ++ a, [w]⟩)] : List (Instr × Cmd)) →
    CommandReady s i 1 → exec i s = .next (forwarded s 2 c)

/-- 44_rasterizer_commands.md R315, 43_consumer_dispatch.md R276: SET_OTHER_MODES is forwarded word for word, and the
persisted mode becomes its argument bits. -/
def Obligations.SetOtherModesIsPersisted : Prop :=
  ∀ (s : State) (omHi : BitVec 24) (omLo : BitVec 32), CommandReady s (.setOtherModes omHi omLo) 1 →
    exec (.setOtherModes omHi omLo) s
      = .next { forwarded s 2 ⟨0x2F#8 ++ omHi, [omLo]⟩ with omHi := omHi, omLo := omLo }

/-- 44_rasterizer_commands.md R300, R320 to R324, R330 to R336: the tile descriptor and texture-memory commands, and the
fill and colour commands, are forwarded word for word. -/
def Obligations.TileAndColorCommandsAreForwarded : Prop :=
  ∀ (s : State) (a : BitVec 24) (w : BitVec 32) (tile : BitVec 3) (opaqueT : BitVec 5) (opaque2 : BitVec 24)
    (x1 y1 x0 y0 : BitVec 12) (opaque1 : BitVec 8) (i : Instr) (c : Cmd),
    (i, c) ∈ ([(.loadTlut a opaqueT tile opaque2, ⟨0x30#8 ++ a, [opaqueT ++ tile ++ opaque2]⟩),
      (.setTileSize a opaqueT tile opaque2, ⟨0x32#8 ++ a, [opaqueT ++ tile ++ opaque2]⟩),
      (.loadBlock a opaqueT tile opaque2, ⟨0x33#8 ++ a, [opaqueT ++ tile ++ opaque2]⟩),
      (.loadTile a opaqueT tile opaque2, ⟨0x34#8 ++ a, [opaqueT ++ tile ++ opaque2]⟩),
      (.setTile a opaqueT tile opaque2, ⟨0x35#8 ++ a, [opaqueT ++ tile ++ opaque2]⟩),
      (.fillRectangle x1 y1 opaque1 x0 y0, ⟨0x36#8 ++ x1 ++ y1, [opaque1 ++ x0 ++ y0]⟩),
      (.setFillColor a w, ⟨0x37#8 ++ a, [w]⟩),
      (.setFogColor a w, ⟨0x38#8 ++ a, [w]⟩),
      (.setBlendColor a w, ⟨0x39#8 ++ a, [w]⟩),
      (.setPrimColor a w, ⟨0x3A#8 ++ a, [w]⟩),
      (.setEnvColor a w, ⟨0x3B#8 ++ a, [w]⟩),
      (.setCombine a w, ⟨0x3C#8 ++ a, [w]⟩)] : List (Instr × Cmd)) →
    CommandReady s i 1 → exec i s = .next (forwarded s 2 c)

/-- 44_rasterizer_commands.md R300, R340 to R342: the fixed image commands are forwarded word for word; their address is
never dereferenced or checked by the consumer. -/
def Obligations.ImageCommandsAreForwarded : Prop :=
  ∀ (s : State) (format : BitVec 5) (opaque0 : BitVec 9) (strideUnits : BitVec 10) (a : BitVec 24) (zero1 : BitVec 8)
    (addr : BitVec 24) (i : Instr) (c : Cmd),
    (i, c) ∈ ([(.setTextureImage format opaque0 strideUnits zero1 addr,
        ⟨0x3D#8 ++ format ++ opaque0 ++ strideUnits, [zero1 ++ addr]⟩),
      (.setZImage a zero1 addr, ⟨0x3E#8 ++ a, [zero1 ++ addr]⟩),
      (.setColorImage format opaque0 strideUnits zero1 addr,
        ⟨0x3F#8 ++ format ++ opaque0 ++ strideUnits, [zero1 ++ addr]⟩)] : List (Instr × Cmd)) →
    CommandReady s i 1 → exec i s = .next (forwarded s 2 c)

/-- 43_consumer_dispatch.md R277: a command whose output would overfill RZ_Q stalls: no element of the state changes, and
no part of the output joins RZ_Q. A built-in command other than SET_LOOKUP_ADDRESS, which forwards nothing, forwards one
command; a client command forwards what its handler answers. A command that faults (a TEXTURE_RECTANGLE_FLIP in COPY
mode) faults first (R260). -/
def Obligations.FullQueueStallsConsumer : Prop :=
  (∀ (s : State) (i : Instr),
      selOf i.opcode ∈ ([1, 2, 3] : List (Fin 16)) → i.opcode ≠ 0x10 →
      s.selMap[selOf i.opcode] = some 1 → s.rpos + i.length ≤ s.params.cap →
      s.params.rzqCap < s.rzQ.length + 1 →
      ¬(i.opcode = 0x25 ∧ s.omHi.extractLsb' 20 2 = 2#2) →
      exec i s = .next s)
    ∧ ∀ (s : State) (fn : BitVec 4) (a24 : BitVec 24) (args : List Word) (i : Instr) (id : Fin 16) (h : Handler)
      (out : List Cmd) (st : List Word),
      i ∈ clientForms fn a24 args →
      ClientReady s i.opcode (args.length + 1) id h →
      handlerValue h i.opcode (encodeCmd i) s.ovlState[id] = .ok out st →
      (∀ d ∈ out, Forwardable d) → out.length ≤ s.params.rzqCap → flipInCopy s.omHi out = none →
      s.params.rzqCap < s.rzQ.length + out.length →
      exec i s = .next s

/-! ### The client commands -/

/-- 43_consumer_dispatch.md R270, R272, R275: a client command whose handler answers `ok(out, st')` commits: the
commands of `out`, each a fixed command of its size and no SYNC_FULL, join RZ_Q, the overlay's state becomes `st'`, the
overlay becomes the current one, and the position moves past the command. -/
def Obligations.ClientCommandCommits : Prop :=
  ∀ (s : State) (fn : BitVec 4) (a24 : BitVec 24) (args : List Word) (i : Instr) (id : Fin 16) (h : Handler)
    (out : List Cmd) (st : List Word),
    i ∈ clientForms fn a24 args →
    ClientReady s i.opcode (args.length + 1) id h →
    handlerValue h i.opcode (encodeCmd i) s.ovlState[id] = .ok out st →
    (∀ d ∈ out, Forwardable d) →
    s.rzQ.length + out.length ≤ s.params.rzqCap →
    flipInCopy s.omHi out = none →
    exec i s = .next { s with
      ovlState := s.ovlState.set id st
      rzQ := s.rzQ ++ out
      omHi := omHiAfter s.omHi out
      omLo := omLoAfter s.omLo out
      curOvl := id
      rpos := s.rpos + (args.length + 1) }

/-- 43_consumer_dispatch.md R275, R276: a client handler's `fail(info)` raises HANDLER_FAULT; an output with a command
that may not be forwarded, or longer than RZQ_CAP, raises BAD_FORWARD naming the first such command or the count; an
output that passes these checks raises FLIP_IN_COPY at its first TEXTURE_RECTANGLE_FLIP in COPY mode, the mode being that
of the last SET_OTHER_MODES before it in the output, else the persisted one. All of them come before the stall test
(60_exceptions.md R406), so a full RZ_Q makes no difference. -/
def Obligations.ClientHandlerFaults : Prop :=
  ∀ (s : State) (fn : BitVec 4) (a24 : BitVec 24) (args : List Word) (i : Instr) (id : Fin 16) (h : Handler),
    s.fault = none →
    i ∈ clientForms fn a24 args →
    ClientReady s i.opcode (args.length + 1) id h →
    let op : Word := i.opcode.setWidth 32
    let answer : HandlerResult := handlerValue h i.opcode (encodeCmd i) s.ovlState[id]
    let fail (code : FaultCode) (info : List Word) : State :=
      { s with fault := some ⟨.contract, code, .consumer, info⟩ }
    let modeAfter (before : List Cmd) : BitVec 24 :=
      ((before.filter (fun d => d.op = 0x2F)).map Cmd.a24).getLastD s.omHi
    (∀ info, answer = .fail info → exec i s = .next (fail .handlerFault (op :: info)))
      ∧ (∀ before d after st, answer = .ok (before ++ d :: after) st → (∀ e ∈ before, Forwardable e) → ¬Forwardable d →
        exec i s = .next (fail .badForward [op, d.op.setWidth 32]))
      ∧ (∀ out st, answer = .ok out st → (∀ e ∈ out, Forwardable e) → s.params.rzqCap < out.length →
        exec i s = .next (fail .badForward [op, wordOfNat out.length]))
      ∧ (∀ before c after st, answer = .ok (before ++ c :: after) st →
        (∀ e ∈ before ++ c :: after, Forwardable e) → (before ++ c :: after).length ≤ s.params.rzqCap →
        flipInCopy s.omHi before = none → c.op = 0x25 → (modeAfter before).extractLsb' 20 2 = 2#2 →
        exec i s = .next (fail .flipInCopy [c.w0]))

/-! ### What a command may change -/

/-- 43_consumer_dispatch.md R273: a command writes no overlay's state but that of the client overlay it dispatches to;
an internal command, and a command of the built-in overlay, writes none. -/
def Obligations.OverlayStateSurvivesOtherCommands : Prop :=
  ∀ (i : Instr) (s t : State) (id : Fin 16), exec i s = .next t →
    (selOf i.opcode = 0 ∨ id = 1 ∨ s.selMap[selOf i.opcode] ≠ some id) →
    t.ovlState[id] = s.ovlState[id]

/-- 43_consumer_dispatch.md R276, R274: a command only appends to RZ_Q, and the persisted mode follows the
SET_OTHER_MODES commands it appends and nothing else. -/
def Obligations.PersistedModeFollowsForwardedCommands : Prop :=
  ∀ (i : Instr) (s t : State), exec i s = .next t →
    ∃ out, t.rzQ = s.rzQ ++ out ∧ t.omHi = omHiAfter s.omHi out ∧ t.omLo = omLoAfter s.omLo out
      ∧ t.rzQ.length ≤ max s.rzQ.length s.params.rzqCap

/-- 10_state.md R60, 20_memory.md R81, R91: no command writes ring memory or any element whose writer is another agent. -/
def Obligations.CommandsWriteOnlyConsumerState : Prop :=
  ∀ (i : Instr) (s t : State), exec i s = .next t →
    t.mem = s.mem ∧ t.params = s.params ∧ t.lc = s.lc ∧ t.active = s.active ∧ t.cursor = s.cursor
      ∧ t.switchPending = s.switchPending ∧ t.resN = s.resN ∧ t.stage = s.stage
      ∧ t.ovlValid = s.ovlValid ∧ t.ovlDesc = s.ovlDesc ∧ t.selMap = s.selMap
      ∧ t.autosync = s.autosync ∧ t.autosyncCfg = s.autosyncCfg
      ∧ t.fenceQ = s.fenceQ ∧ t.fenceIssued = s.fenceIssued ∧ t.fenceDone = s.fenceDone
      ∧ t.rzInuse = s.rzInuse ∧ t.irqPending = s.irqPending ∧ t.rzLog = s.rzLog ∧ t.cbLog = s.cbLog
      ∧ t.pq = s.pq ∧ t.result = s.result
      ∧ t.hostOps = s.hostOps ∧ t.turns = s.turns ∧ t.tick = s.tick

/-- 43_consumer_dispatch.md R265 (with R260, R262, R264 and R277): a well-formed command other than TERMINATOR and JUMP
moves the position by exactly its size, or leaves it in place, and then nothing but FAULT changes; a TERMINATOR never
moves it. -/
def Obligations.PositionAdvancesBySize : Prop :=
  ∀ (i : Instr) (s t : State),
    i.wellFormed (decodeSize s) s.params.maxCmd = true → exec i s = .next t →
    ((∀ ignored, i ≠ .terminator ignored) → (∀ target, i ≠ .jump target) →
        t.cbuf = s.cbuf ∧ (t.rpos = s.rpos + i.length ∨ t = { s with fault := t.fault }))
      ∧ (∀ ignored, i = .terminator ignored → t.cbuf = s.cbuf ∧ t.rpos = s.rpos)

/-! ### The lifecycle -/

/-- 40_ring_buffer.md R154, R158: an operation that the lifecycle state does not admit raises the fault of its cell, and
one that it admits none of those faults; after that check an open reservation refuses every operation but `store` and
`publish` with RESERVATION_STATE. -/
def Obligations.LifecycleAndReservationChecks : Prop :=
  ∀ (s : State) (op : PortOp) (ops : List PortOp), Issues s op ops →
    (admits s.lc op = false → step s = .next (faulted s .producer (refusal s.lc op) []))
      ∧ (admits s.lc op = true → ∀ t r, step s = .next t → t.fault = some r →
          r.code ∉ ([.notInit, .alreadyInit, .notStarted, .afterStart] : List FaultCode))
      ∧ (admits s.lc op = true → s.resN ≠ 0 → regionOperation op = false →
          step s = .next (faulted s .producer .reservationState []))

/-- 40_ring_buffer.md R150, 70_reset_and_hazards.md R451: `init` before `init` leaves every element at its value after
init, both ring buffers filled with terminators, and the logs unchanged. -/
def Obligations.InitLeavesStateReady : Prop :=
  ∀ (s : State) (ops : List PortOp), Issues s .init ops → s.lc = .uninit → s.resN = 0 → s.params.valid = true →
    ∃ t, step s = .next t
      ∧ t.fault = none ∧ t.lc = .ready ∧ t.active = .b0 ∧ t.cursor = 0 ∧ t.switchPending = false ∧ t.resN = 0
      ∧ t.stage = List.replicate s.params.maxCmd none
      ∧ (∀ b i, i ≤ s.params.cap → ringRead t b i = .ok 0)
      ∧ t.sig = false ∧ t.cstate = .idle ∧ t.cbuf = .b0 ∧ t.rpos = 0 ∧ t.curOvl = 0
      ∧ (∀ id : Fin 16, t.ovlValid[id] = decide (id < 2))
      ∧ t.ovlDesc[0] = ⟨0, 0, 0, 0, 0, .internal, .internal⟩
      ∧ t.ovlDesc[1] = ⟨0, 0, 0, 0, 0, .builtin, .builtin⟩
      ∧ (∀ sel : Fin 16, t.selMap[sel] = if sel = 0 then some 0 else if sel < 4 then some 1 else none)
      ∧ (∀ k : Fin 16, t.lookup[k] = 0) ∧ t.omHi = 0 ∧ t.omLo = 0
      ∧ t.autosync = 0 ∧ t.autosyncCfg = 0b111 ∧ t.fenceQ = [] ∧ t.fenceIssued = 0 ∧ t.fenceDone = 0
      ∧ t.rzQ = [] ∧ t.rzInuse = 0 ∧ t.irqPending = 0 ∧ t.rzLog = s.rzLog ∧ t.cbLog = s.cbLog
      ∧ t.pq = [] ∧ t.result = none ∧ t.params = s.params

/-- 40_ring_buffer.md R151: `start` opens the ring: LC becomes STARTED and nothing else changes. -/
def Obligations.StartOpensTheRing : Prop :=
  ∀ (s : State) (ops : List PortOp), Issues s .start ops →
    step s = .next (gate s .start { issued s ops with lc := .started })

/-- 40_ring_buffer.md R152, R153: `close` queues DRAIN and CLOSE_COMMIT; DRAIN stalls until the block is drained
(70_reset_and_hazards.md R478); CLOSE_COMMIT leaves FAULT, the logs and ring memory, and the reset value everywhere
else the spec gives one. -/
def Obligations.CloseDrainsThenResets : Prop :=
  (∀ (s : State) (ops : List PortOp), Issues s .close ops →
      step s = .next (gate s .close { issued s ops with pq := [.drain, .closeCommit] }))
    ∧ (∀ (s : State) (rest : List MicroStep), Runs s .drain rest →
      let isDrained : Prop := s.switchPending = false ∧ s.resN = 0 ∧ s.cbuf = s.active ∧ s.rpos = s.cursor
        ∧ s.sig = false ∧ s.cstate = .idle ∧ s.rzQ = [] ∧ s.irqPending = 0
      (isDrained → step s = .next { takeTurn s with pq := rest }) ∧ (¬isDrained → step s = .next (takeTurn s)))
    ∧ (∀ (s : State) (rest : List MicroStep), Runs s .closeCommit rest →
      ∃ t, step s = .next t
        ∧ t.fault = none ∧ t.rzLog = s.rzLog ∧ t.cbLog = s.cbLog ∧ t.mem = s.mem
        ∧ t.lc = .uninit ∧ t.active = .b0 ∧ t.cursor = 0 ∧ t.switchPending = false ∧ t.resN = 0
        ∧ t.stage = List.replicate s.params.maxCmd none
        ∧ t.sig = false ∧ t.cstate = .idle ∧ t.cbuf = .b0 ∧ t.rpos = 0 ∧ t.curOvl = 0
        ∧ (∀ id : Fin 16, t.ovlValid[id] = false) ∧ (∀ sel : Fin 16, t.selMap[sel] = none)
        ∧ (∀ k : Fin 16, t.lookup[k] = 0) ∧ t.omHi = 0 ∧ t.omLo = 0
        ∧ t.autosync = 0 ∧ t.autosyncCfg = 0b111 ∧ t.fenceQ = [] ∧ t.fenceIssued = 0 ∧ t.fenceDone = 0
        ∧ t.rzQ = [] ∧ t.rzInuse = 0 ∧ t.irqPending = 0 ∧ t.pq = [] ∧ t.result = none ∧ t.params = s.params)

/-! ### The ring operations -/

/-- 40_ring_buffer.md R155, R156: `reserve(n)` opens a region of n unwritten words, or faults with OVERSIZE; `store(k, w)`
stages w at k, or faults with RESERVATION_STATE outside the region. -/
def Obligations.ReserveOpensAndStoreFillsRegion : Prop :=
  (∀ (s : State) (n : Word) (ops : List PortOp), Issues s (.reserve n) ops →
      step s = .next (gate s (.reserve n)
        (if n = 0 ∨ s.params.maxCmd < n.toNat then faulted s .producer .oversize [n]
         else { issued s ops with resN := n.toNat, stage := List.replicate s.params.maxCmd none })))
    ∧ ∀ (s : State) (k w : Word) (ops : List PortOp), Issues s (.store k w) ops →
      step s = .next (gate s (.store k w)
        (if s.resN = 0 ∨ s.resN ≤ k.toNat then faulted s .producer .reservationState [k]
         else { issued s ops with stage := s.stage.set k.toNat (some w) }))

/-- 40_ring_buffer.md R157: `publish` queues the EMIT of the staged words, closing the region, after the checks of the
rule in its order: a region word never stored faults with PUBLISH_INCOMPLETE naming one such word, the first words
deciding the opcode and size checks of 42_encoder_autosync.md R210. -/
def Obligations.PublishEmitsStagedWords : Prop :=
  ∀ (s : State) (ops : List PortOp), Issues s .publish ops → s.lc = .started →
    (s.resN = 0 → step s = .next (faulted s .producer .reservationState []))
      ∧ ((∃ k, k < s.resN ∧ stageAt s k = none) →
        ∃ k, k < s.resN ∧ stageAt s k = none ∧ step s = .next (faulted s .producer .publishIncomplete [wordOfNat k]))
      ∧ (∀ c : Cmd, c.size = s.resN → s.stage.take s.resN = c.words.map some →
        step s = .next
          (if opSize s c.op = none then faulted s .producer .unboundSelector [c.op.setWidth 32]
           else if c.op = 0x00 ∨ c.op = 0x02 ∨ c.op = 0x29 ∨ opSize s c.op = some 0 then
             faulted s .producer .reservedOpcode [c.op.setWidth 32]
           else if opSize s c.op ≠ some c.size then
             faulted s .producer .sizeMismatch [c.op.setWidth 32, wordOfNat c.size]
           else { issued s ops with
             resN := 0
             stage := List.replicate s.params.maxCmd none
             pq := [.emit c 0 0] }))

/-- 40_ring_buffer.md R160: EMIT puts the command at the cursor and a terminator after it, advances the cursor, signals
and wakes the consumer, and queues a SWITCH exactly when the cursor is then past the sentinel. No other byte of memory
changes. -/
def Obligations.EmitPlacesCommand : Prop :=
  ∀ (s : State) (c : Cmd) (clr use : HazardMask) (rest : List MicroStep),
    Runs s (.emit c clr use) rest → s.params.valid = true → s.cursor + c.size ≤ s.params.cap →
    ∃ m, step s = .next { takeTurn s with
        mem := m
        cursor := s.cursor + c.size
        sig := true
        cstate := .run
        switchPending := s.switchPending || decide (s.params.sentinel < s.cursor + c.size)
        pq := if s.params.sentinel < s.cursor + c.size then .switch :: rest else rest }
      ∧ ringReads { s with mem := m } s.active s.cursor (c.size + 1) = .ok (c.words ++ [0])
      ∧ ∀ a, (a < ringAddr s.params s.active s.cursor ∨ ringAddr s.params s.active (s.cursor + c.size + 1) ≤ a) →
          memRead m a = memRead s.mem a

/-- 40_ring_buffer.md R165: SWITCH stalls until the consumer is in the active buffer; then it clears the other buffer,
writes at the cursor a JUMP to it, makes it the active buffer with the cursor at 0, and signals the consumer. No other
byte of memory changes. -/
def Obligations.SwitchJumpsToOtherBuffer : Prop :=
  ∀ (s : State) (rest : List MicroStep),
    Runs s .switch rest →
    (s.cbuf ≠ s.active → step s = .next (takeTurn s))
      ∧ (s.cbuf = s.active → s.params.valid = true → s.cursor ≤ s.params.cap →
        ∃ m, step s = .next { takeTurn s with
            mem := m
            active := s.active.other
            cursor := 0
            switchPending := false
            sig := true
            cstate := .run
            pq := rest }
          ∧ (∀ i, i ≤ s.params.cap → ringRead { s with mem := m } s.active.other i = .ok 0)
          ∧ ringRead { s with mem := m } s.active s.cursor = .ok (0x02#8 ++ bufBase s.params s.active.other)
          ∧ ∀ a, (a < ringAddr s.params s.active.other 0
                ∨ ringAddr s.params s.active.other (s.params.cap + 1) ≤ a) →
              (a < ringAddr s.params s.active s.cursor ∨ ringAddr s.params s.active (s.cursor + 1) ≤ a) →
              memRead m a = memRead s.mem a)

/-! ### The overlay registry -/

/-- 41_overlay_registry.md R190: `register`, its checks in the rule's order, claims the requested id or the lowest free
one. -/
def Obligations.RegisterClaimsId : Prop :=
  ∀ (s : State) (d : DescriptorArg) (want : Option Word) (ops : List PortOp),
    Issues s (.register d want) ops → s.lc = .ready → s.resN = 0 →
    let ok : Prop := d.codeAddr.toNat < 2 ^ 24 ∧ d.dataAddr.toNat < 2 ^ 24 ∧ d.stateAddr.toNat < 2 ^ 24
      ∧ ∀ f : Fin 16, d.cmdSize[f] ≤ s.params.maxCmd ∧ (d.cmdSize[f] = 0 ↔ d.handler.meanings.getLsbD f.val = false)
    let outOfRange : Prop := ∃ w, want = some w ∧ 16 ≤ w.toNat
    let full : Prop := ∀ i : Fin 16, 2 ≤ i → s.ovlValid[i] = true
    (¬ok → step s = .next (faulted s .producer .badDescriptor []))
      ∧ (∀ w, ok → want = some w → 16 ≤ w.toNat → step s = .next (faulted s .producer .ovlIdRange [w]))
      ∧ (ok → ¬outOfRange → full → step s = .next (faulted s .producer .ovlTableFull []))
      ∧ (∀ i : Fin 16, ok → ¬full → want = some (wordOfNat i.val) → s.ovlValid[i] = true →
          step s = .next (faulted s .producer .ovlDuplicate [wordOfNat i.val]))
      ∧ (∀ i : Fin 16, ok → ¬full → s.ovlValid[i] = false →
          (want = some (wordOfNat i.val) ∨ (want = none ∧ 2 ≤ i ∧ ∀ j : Fin 16, 2 ≤ j → j < i → s.ovlValid[j] = true)) →
          step s = .next { issued s ops with
            ovlValid := s.ovlValid.set i true
            ovlDesc := s.ovlDesc.set i ⟨d.codeAddr.extractLsb' 0 24, d.dataAddr.extractLsb' 0 24,
              d.stateAddr.extractLsb' 0 24, d.codeSize, d.dataSize, .client d.cmdSize, .client d.handler⟩
            ovlState := s.ovlState.set i d.initState
            result := some (wordOfNat i.val) })

/-- 41_overlay_registry.md R192: `bind`, its checks in the rule's order, maps the selector to the overlay. -/
def Obligations.BindMapsSelector : Prop :=
  ∀ (s : State) (id sel : Word) (ops : List PortOp), Issues s (.bind id sel) ops → s.lc = .ready → s.resN = 0 →
    (15 < sel.toNat ∨ sel.toNat ≤ 3 → step s = .next (faulted s .producer .selRange [sel]))
      ∧ (3 < sel.toNat → sel.toNat ≤ 15 → (id.toNat < 2 ∨ 16 ≤ id.toNat) →
          step s = .next (faulted s .producer .ovlNotRegistered [id]))
      ∧ (∀ i k : Fin 16, 4 ≤ k → sel = wordOfNat k.val → id = wordOfNat i.val → 2 ≤ i →
          step s = .next
            (if s.ovlValid[i] = false then faulted s .producer .ovlNotRegistered [id]
             else if s.selMap[k] ≠ none then faulted s .producer .selBound [sel]
             else { issued s ops with selMap := s.selMap.set k (some i) }))

/-- 41_overlay_registry.md R194, R195 (an inference of the spec): while the queue is started no agent's step writes
OVL_VALID, OVL_DESC or SEL_MAP, but for the CLOSE_COMMIT that ends it. -/
def Obligations.RegistryIsFrozenWhileStarted : Prop :=
  ∀ (s t : State) (a : Agent), nextTurn s = .agent a → s.lc = .started → step s = .next t →
    s.pq.head? ≠ some .closeCommit →
    t.lc = .started ∧ t.ovlValid = s.ovlValid ∧ t.ovlDesc = s.ovlDesc ∧ t.selMap = s.selMap

/-! ### The encoder and the hazard tracker -/

/-- 42_encoder_autosync.md R210, R211, R212, R215: `write` makes its checks in the rule's order and raises the first that
fails; a write that passes them all raises no fault. -/
def Obligations.WriteChecksInOrder : Prop :=
  ∀ (s : State) (shape : Shape) (op : Byte) (a24 : BitVec 24) (args : List Word) (use change : HazardMask)
    (ops : List PortOp),
    Issues s (.write shape op a24 args use change) ops → s.lc = .started → s.resN = 0 →
    let opw : Word := op.setWidth 32
    let w1 : Word := args.headD 0
    let fail (code : FaultCode) (info : List Word) (t : State) : Prop := t = faulted s .producer code info
    ∃ t, step s = .next t ∧
      if 4 ≤ selOf op ∧ s.selMap[selOf op] = none then fail .unboundSelector [opw] t
      else if op ∈ ([0x00, 0x02, 0x29] : List Byte) ∨ opSize s op = some 0 then fail .reservedOpcode [opw] t
      else if opSize s op ≠ some (args.length + 1) then fail .sizeMismatch [opw, wordOfNat (args.length + 1)] t
      else if (use ||| change) &&& ~~~0x7FF#32 ≠ 0 then fail .badMask [use, change] t
      else if shape = .plain ∧ use ||| change ≠ 0 then fail .badMask [use, change] t
      else if shape = .syncUse ∧ change ≠ 0 then fail .badMask [use, change] t
      else if shape = .auto ∧ (use ||| change ≠ 0 ∨ 4 ≤ selOf op) then fail .badMask [use, change] t
      else if op = 0x10 ∧ w1.extractLsb' 28 4 = 0#4 then fail .badEnum [opw] t
      else if op ∈ ([0x10, 0x11, 0x12, 0x13, 0x3D, 0x3E, 0x3F] : List Byte)
          ∧ (w1.extractLsb' 0 24).toNat % s.params.imgAlign ≠ 0 then fail .misaligned [opw] t
      else if op ∈ ([0x11, 0x13, 0x3D, 0x3F] : List Byte)
          ∧ s.params.validImgFmt.getLsbD (a24.extractLsb' 19 5).toNat = false then fail .badEnum [opw] t
      else if unsupportedFeature s.params ⟨op ++ a24, args⟩ = true then fail .unsupportedFeature [opw] t
      else t.fault = none

/-- 42_encoder_autosync.md R213: a `write` that passes every check queues at most one sync per class, TILE, TMEM, PIPE in
that order, each exactly when a bit of the class is both changed and in use and the class is enabled, then the command;
AUTOSYNC loses the classes synced and the bits the command clears, and gains the bits it uses. -/
def Obligations.WriteEmitsNeededSyncs : Prop :=
  ∀ (s : State) (shape : Shape) (op : Byte) (a24 : BitVec 24) (args : List Word) (use change : HazardMask)
    (ops : List PortOp) (t : State),
    Issues s (.write shape op a24 args use change) ops → step s = .next t → t.fault = none →
    let c : Cmd := ⟨op ++ a24, args⟩
    let chg : HazardMask := if shape = .auto then hzChange c else change
    let u : HazardMask := if shape = .auto then hzUse c else use
    let hit (mask : HazardMask) (bit : Nat) : Bool :=
      decide (chg &&& s.autosync &&& mask ≠ 0) && s.autosyncCfg.getLsbD bit
    let syncs (mask : HazardMask) (bit : Nat) (w0 : Word) : List MicroStep :=
      if hit mask bit then [.emit ⟨w0, [0]⟩ mask 0] else []
    let gone (mask : HazardMask) (bit : Nat) : HazardMask := if hit mask bit then mask else 0
    t = { issued s ops with
      pq := syncs 0x0FF 1 0x28000000 ++ syncs 0x300 2 0x26000000 ++ syncs 0x400 0 0x27000000
        ++ [.emit c (hzClear c) u]
      autosync :=
        (s.autosync &&& ~~~(gone 0x0FF 1 ||| gone 0x300 2 ||| gone 0x400 0) &&& ~~~hzClear c) ||| u }

/-- 42_encoder_autosync.md R220, 30_encoding.md R119: the static hazard table. -/
def Obligations.HazardTableRows : Prop :=
  ∀ c : Cmd,
    let tile : HazardMask := 1#32 <<< ((argWord1 c).extractLsb' 24 3).toNat
    (c.op ∈ ([0x01, 0x10] : List Byte) → hzUse c = 0 ∧ hzChange c = 0 ∧ hzClear c = 0)
      ∧ (c.op ∈ ([0x24, 0x25] : List Byte) → hzUse c = 0x400 ||| tile ||| 0x100 ∧ hzChange c = 0 ∧ hzClear c = 0)
      ∧ (c.op ∈ ([0x30, 0x33, 0x34] : List Byte) → hzUse c = tile ∧ hzChange c = 0x100 ∧ hzClear c = 0)
      ∧ (c.op ∈ ([0x32, 0x35] : List Byte) → hzUse c = 0 ∧ hzChange c = tile ∧ hzClear c = 0)
      ∧ (c.op = 0x36 → hzUse c = 0x400 ∧ hzChange c = 0 ∧ hzClear c = 0)
      ∧ (c.op ∈ ([0x11, 0x12, 0x13, 0x14, 0x2A, 0x2B, 0x2C, 0x2D, 0x2E, 0x2F, 0x37, 0x38, 0x39, 0x3A, 0x3B, 0x3C, 0x3D,
            0x3E, 0x3F] : List Byte) → hzUse c = 0 ∧ hzChange c = 0x400 ∧ hzClear c = 0)
      ∧ (c.op = 0x26 → hzUse c = 0 ∧ hzChange c = 0 ∧ hzClear c = 0x300)
      ∧ (c.op = 0x27 → hzUse c = 0 ∧ hzChange c = 0 ∧ hzClear c = 0x400)
      ∧ (c.op = 0x28 → hzUse c = 0 ∧ hzChange c = 0 ∧ hzClear c = 0x0FF)
      ∧ (c.op = 0x29 → hzUse c = 0 ∧ hzChange c = 0 ∧ hzClear c = 0x7FF)

/-- 42_encoder_autosync.md R230: an explicit sync clears its class in AUTOSYNC and queues its one command. -/
def Obligations.ExplicitSyncsClearTheirClass : Prop :=
  ∀ (s : State) (op : PortOp) (w0 : Word) (mask : HazardMask) (ops : List PortOp),
    (op, w0, mask) ∈ ([(.syncPipe, 0x27000000, 0x400), (.syncTile, 0x28000000, 0x0FF), (.syncLoad, 0x26000000, 0x300)]
      : List (PortOp × Word × HazardMask)) →
    Issues s op ops →
    step s = .next (gate s op
      { issued s ops with autosync := s.autosync &&& ~~~mask, pq := [.emit ⟨w0, [0]⟩ mask 0] })

/-- 42_encoder_autosync.md R232, R233: `fence` and `wait` append their entry, count it, clear AUTOSYNC and queue
SYNC_FULL; `wait` then waits in WAITF until FENCE_DONE is its number, and stalls otherwise. -/
def Obligations.FenceAndWaitQueueSyncFull : Prop :=
  (∀ (s : State) (cb arg : Nat) (ops : List PortOp), Issues s (.fence cb arg) ops →
      step s = .next (gate s (.fence cb arg) { issued s ops with
        fenceQ := s.fenceQ ++ [.call ⟨cb, arg⟩]
        fenceIssued := s.fenceIssued + 1
        autosync := 0
        pq := [.emit ⟨0x29000000, [0]⟩ 0x7FF 0] }))
    ∧ (∀ (s : State) (ops : List PortOp), Issues s .wait ops →
      step s = .next (gate s .wait { issued s ops with
        fenceQ := s.fenceQ ++ [.noCb]
        fenceIssued := s.fenceIssued + 1
        autosync := 0
        pq := [.emit ⟨0x29000000, [0]⟩ 0x7FF 0, .waitf (s.fenceIssued + 1)] }))
    ∧ (∀ (s : State) (k : Word) (rest : List MicroStep), Runs s (.waitf k) rest →
      (s.fenceDone = k → step s = .next { takeTurn s with pq := rest })
        ∧ (s.fenceDone ≠ k → step s = .next (takeTurn s)))

/-- 42_encoder_autosync.md R236: `config` returns the previous enables and sets and clears the named ones, a bit in both
masks ending disabled; a mask with a higher bit faults with BAD_MASK. -/
def Obligations.ConfigSetsEnables : Prop :=
  ∀ (s : State) (enable disable : Word) (ops : List PortOp), Issues s (.config enable disable) ops →
    step s = .next (gate s (.config enable disable)
      (if (enable ||| disable) &&& ~~~7#32 ≠ 0 then faulted s .producer .badMask [enable, disable]
       else { issued s ops with
         result := some (s.autosyncCfg.setWidth 32)
         autosyncCfg := (s.autosyncCfg ||| enable.setWidth 3) &&& ~~~disable.setWidth 3 }))

/-- 42_encoder_autosync.md R240 to R248: each encoder helper is the `write(AUTO, ...)` of its packed fields, every field
masked to its width. -/
def Obligations.HelpersPackFields : Prop :=
  ∀ (s : State) (x0 y0 x1 y1 format stride index addr half mask value : Word) (h : PortOp) (op : Byte) (a24 : Word)
    (args : List Word),
    let q (v : Word) : Word := (4 * v) &&& 0xFFF
    let image : Word := ((format &&& 0x1F) <<< 19) ||| (stride &&& 0x3FF)
    let indexed : Word := ((index &&& 0xF) <<< 28) ||| (addr &&& 0xFFFFFF)
    (h, op, a24, args) ∈ ([
      (.scissor x0 y0 x1 y1, 0x2D, (q x0 <<< 12) ||| q y0, [(q x1 <<< 12) ||| q y1]),
      (.setColorImage format stride addr, 0x3F, image, [addr &&& 0xFFFFFF]),
      (.fillRectangle x0 y0 x1 y1, 0x36, (q x1 <<< 12) ||| q y1, [(q x0 <<< 12) ||| q y0]),
      (.setFillColor value, 0x37, 0, [value]),
      (.setZImage addr, 0x3E, 0, [addr &&& 0xFFFFFF]),
      (.setTextureImage format stride addr, 0x3D, image, [addr &&& 0xFFFFFF]),
      (.setLookupAddress index addr, 0x10, 0, [indexed]),
      (.modifyOtherModes half mask value, 0x14, half &&& 1, [mask, value]),
      (.setImageDyn .color format stride index addr, 0x11, image, [indexed]),
      (.setImageDyn .z format stride index addr, 0x12, 0, [indexed]),
      (.setImageDyn .texture format stride index addr, 0x13, image, [indexed])]
      : List (PortOp × Byte × Word × List Word)) →
    issue s h = issue s (.write .auto op (a24.extractLsb' 0 24) args 0 0)

/-! ### The rasterizer and the fences -/

/-- 60_exceptions.md R420, R421: the rasterizer completes the command at the head of RZ_Q and updates RZ_INUSE, a
SYNC_FULL raising a fence completion, unless the command changes a resource in use: then it faults with RZ_HAZARD. With
an empty queue it has no step. -/
def Obligations.RasterizerCompletesInOrder : Prop :=
  ∀ s : State, AgentTurn s .rasterizer →
    (s.rzQ = [] → step s = .next (takeTurn s))
      ∧ ∀ c q, s.rzQ = c :: q →
        (hzChange c &&& s.rzInuse ≠ 0 →
          step s = .next (faulted s .rasterizer .rzHazard [c.w0, hzChange c &&& s.rzInuse]))
        ∧ (hzChange c &&& s.rzInuse = 0 →
          step s = .next { takeTurn s with
            rzQ := q
            rzLog := s.rzLog ++ [c]
            rzInuse := (s.rzInuse &&& ~~~hzClear c) ||| hzUse c
            irqPending := s.irqPending + if c.op = 0x29 then 1 else 0 })

/-- 60_exceptions.md R425: each pending completion services the oldest fence entry, a callback being invoked with its
argument and a NOCB entry only counted; with no entry it faults with SPURIOUS_FENCE. With nothing pending FENCE_IRQ has
no step. -/
def Obligations.FenceIrqServicesOldestFence : Prop :=
  ∀ s : State, AgentTurn s .fenceIrq →
    (s.irqPending = 0 → step s = .next (takeTurn s))
      ∧ (0 < s.irqPending → s.fenceQ = [] → step s = .next (faulted s .fenceIrq .spuriousFence []))
      ∧ (∀ e q, 0 < s.irqPending → s.fenceQ = e :: q →
        step s = .next { takeTurn s with
          irqPending := s.irqPending - 1
          fenceQ := q
          fenceDone := s.fenceDone + 1
          cbLog := s.cbLog ++ (match e with | .call c => [c] | .noCb => []) })

/-! ### Faults and reset -/

/-- 60_exceptions.md R401, R405: a fault is precise. A step either leaves no fault, or leaves the state before it plus the
record of the agent that raised it; from then on no agent has a step, and only a power-on reset clears the record. -/
def Obligations.FaultIsPreciseAndHalts : Prop :=
  (∀ s t : State, s.fault = none → step s = .next t →
      t.fault = none ∨ ∃ a code info, nextTurn s = .agent a ∧ t = faulted s a code info)
    ∧ (∀ (s : State) (r : FaultRecord), s.fault = some r →
      (∀ a, nextTurn s = .agent a → step s = .fault (.halted r))
        ∧ (∀ t, step s = .next t → nextTurn s = .powerOn ∧ t.fault = none))

/-- 60_exceptions.md R402: the code and the class of every fault. -/
def Obligations.FaultCodesAndClasses : Prop :=
  ∀ (c : FaultCode) (v : Nat) (k : FaultClass),
    (c, v, k) ∈ ([(.notInit, 0x01, .contract), (.alreadyInit, 0x02, .contract), (.notStarted, 0x03, .contract),
      (.afterStart, 0x04, .contract), (.ovlTableFull, 0x05, .contract), (.ovlDuplicate, 0x06, .contract),
      (.ovlIdRange, 0x07, .contract), (.selRange, 0x08, .contract), (.selBound, 0x09, .contract),
      (.ovlNotRegistered, 0x0A, .contract), (.badDescriptor, 0x0B, .contract), (.oversize, 0x0C, .contract),
      (.reservationState, 0x0D, .contract), (.publishIncomplete, 0x0E, .contract), (.reservedOpcode, 0x0F, .contract),
      (.sizeMismatch, 0x10, .contract), (.badMask, 0x11, .contract), (.misaligned, 0x12, .contract),
      (.badEnum, 0x13, .contract), (.unboundSelector, 0x14, .contract), (.invalidOpcode, 0x15, .contract),
      (.badJump, 0x16, .contract), (.ringOverrun, 0x17, .contract), (.flipInCopy, 0x18, .contract),
      (.badForward, 0x19, .contract), (.spuriousFence, 0x1A, .contract), (.handlerFault, 0x1B, .contract),
      (.unsupportedFeature, 0x40, .unsupported), (.rzHazard, 0x80, .undefined)]
      : List (FaultCode × Nat × FaultClass)) →
    c.value = BitVec.ofNat 8 v ∧ c.cls = k

/-- 70_reset_and_hazards.md R450: a power-on reset, from any state, a halted one included, puts every element at its
reset value; State.reset is such a state. -/
def Obligations.PowerOnResetsEveryElement : Prop :=
  let atReset (t : State) : Prop :=
    t.fault = none ∧ t.lc = .uninit ∧ t.active = .b0 ∧ t.cursor = 0 ∧ t.switchPending = false ∧ t.resN = 0
      ∧ t.stage = List.replicate t.params.maxCmd none
      ∧ t.sig = false ∧ t.cstate = .idle ∧ t.cbuf = .b0 ∧ t.rpos = 0 ∧ t.curOvl = 0
      ∧ (∀ id : Fin 16, t.ovlValid[id] = false) ∧ (∀ sel : Fin 16, t.selMap[sel] = none)
      ∧ (∀ k : Fin 16, t.lookup[k] = 0) ∧ t.omHi = 0 ∧ t.omLo = 0
      ∧ t.autosync = 0 ∧ t.autosyncCfg = 0b111 ∧ t.fenceQ = [] ∧ t.fenceIssued = 0 ∧ t.fenceDone = 0
      ∧ t.rzQ = [] ∧ t.rzInuse = 0 ∧ t.irqPending = 0 ∧ t.rzLog = [] ∧ t.cbLog = [] ∧ t.pq = [] ∧ t.result = none
  atReset State.reset
    ∧ ∀ s : State, nextTurn s = .powerOn → ∃ t, step s = .next t ∧ atReset t ∧ t.params = s.params

/-! ### Invariants -/

/-- Every step keeps the invariants of the state: the canonical form of memory, the hazard masks' reserved bits
(10_state.md R50), the hardwired lookup entry (R46), the bound of RZ_Q (R54), the fit guarantee (40_ring_buffer.md R162)
and the registry (41_overlay_registry.md R190 to R194). -/
def Obligations.StateInvariantIsKept : Prop :=
  ∀ s t : State, StateInv s → step s = .next t → StateInv t

/-- 40_ring_buffer.md R170, R171, R172 (inferences of the spec): the ring is a FIFO of the commands emitted and not yet
executed. An EMIT appends its command, a CONSUMER step executes the command at the head or leaves the list alone, and no
other step changes it; power-on reset empties it. -/
def Obligations.RingDeliversCommandsInOrder : Prop :=
  ∀ (s t : State) (q : List Cmd), StateInv s → RingInv s q → step s = .next t →
    ∃ q', RingInv t q' ∧
      match nextTurn s, s.pq with
      | .powerOn, _ => q' = []
      | .agent .producer, .emit c _ _ :: _ => q' = q ++ [c]
      | .agent .consumer, _ =>
        q' = q ∨ ∃ c i, q = c :: q' ∧ encodeCmd i = c ∧ s.cstate = .run ∧ exec i (takeTurn s) = .next t
      | _, _ => q' = q

/-- 60_exceptions.md R425, 10_state.md R53: every step of a safe run keeps the fence invariant with the others: each
outstanding fence has exactly one SYNC_FULL still to come or completion pending, and the counters differ by the
outstanding fences modulo 2^32. -/
def Obligations.SafeRunIsKept : Prop :=
  ∀ s t : State, RunInv s → step s = .next t → RunInv t

/-- The reset state under any parameters that meet the constraints of 00_scope.md R10, State.reset's among them, is safe,
and nothing is in the ring. -/
def Obligations.ResetIsSafe : Prop :=
  defaultParams.valid = true
    ∧ (∀ p : Params, p.valid = true → RunInv (State.resetWith p))
    ∧ RingInv State.reset [] ∧ FenceInv State.reset [] ∧ TrackerInv State.reset []

/-- In a safe run without a fault every turn has a next state: no access outside the ring, to a byte nothing has
written, or to an overlay without a handler is ever made (40_ring_buffer.md R162, R172, 43_consumer_dispatch.md R265). -/
def Obligations.SafeRunNeverGetsStuck : Prop :=
  ∀ s : State, RunInv s → s.fault = none → ∃ t, step s = .next t

/-- 60_exceptions.md R402, last paragraph (an inference of the spec): in a safe run the defensive checks never fail: the
consumer raises no UNBOUND_SELECTOR, INVALID_OPCODE, BAD_JUMP or RING_OVERRUN, and FENCE_IRQ no SPURIOUS_FENCE. -/
def Obligations.DefensiveChecksNeverFail : Prop :=
  ∀ (s t : State) (r : FaultRecord), RunInv s → s.fault = none → step s = .next t → t.fault = some r →
    r.code ∉ ([.invalidOpcode, .badJump, .ringOverrun, .spuriousFence] : List FaultCode)
      ∧ ¬(r.agent = .consumer ∧ r.code = .unboundSelector)

/-- 42_encoder_autosync.md R222 (an inference of the spec): with every class enabled and every command written with masks
at least those of the hazard table, the rasterizer never raises RZ_HAZARD, and every step keeps it so. -/
def Obligations.TrackerNeverUnderSyncs : Prop :=
  ∀ (s t : State) (q : List Cmd), StateInv s → RingInv s q → TrackerInv s q → s.fault = none → step s = .next t →
    (∀ r, t.fault = some r → r.code ≠ .rzHazard) ∧ ∃ q', RingInv t q' ∧ TrackerInv t q'

/-- 70_reset_and_hazards.md R478, R479 (inferences of the spec): in a safe run, a drained block with no EMIT queued has
serviced every fence and executed every command; and a quiescent block without a fault and with no open reservation is
drained. (An EMIT still queued, right after the issue of a fence, and an open reservation are the two cases the
inferences pass over.) -/
def Obligations.DrainedMeansDone : Prop :=
  (∀ (s : State) (q : List Cmd), RingInv s q → FenceInv s q → s.lc ≠ .uninit → drained s = true → emitsOf s.pq = [] →
      q = [] ∧ s.fenceQ = [] ∧ s.fenceDone = s.fenceIssued)
    ∧ ∀ (s : State) (q : List Cmd), RingInv s q → s.lc ≠ .uninit → s.fault = none → quiescent s = true → s.resN = 0 →
      drained s = true

/-- 60_exceptions.md R434: weak fairness. In a safe run every agent has a turn again and again, unless a fault halts the
block: so an agent whose step stays enabled eventually takes it. -/
def Obligations.EveryAgentTakesItsTurn : Prop :=
  ∀ (s : State) (a : Agent), RunInv s →
    ∃ n t, runFor n s = .next t ∧ (t.fault ≠ none ∨ nextTurn t = .agent a)

/-- 70_reset_and_hazards.md R463 (an inference of the spec), R480: no stall is permanent, and every safe run ends. From
every safe state, whatever operations the host has still to issue, a state is reached in which the run has ended, by a
fault or with no operation left and the block quiescent; its result is what R480 names. From then on no turn of an agent
changes anything, or the block is halted. -/
def Obligations.EveryRunEnds : Prop :=
  (∀ s : State, RunInv s → ∃ n t, runFor n s = .next t
      ∧ (t.fault ≠ none ∨ (t.hostOps = [] ∧ t.pq = [] ∧ t.cstate = .idle ∧ t.rzQ = [] ∧ t.irqPending = 0))
      ∧ runToEnd n s = some ⟨t.rzLog, t.cbLog, t.fault, t⟩)
    ∧ ∀ (s : State) (a : Agent), runEnded s = true → nextTurn s = .agent a →
      (∃ r, s.fault = some r ∧ step s = .fault (.halted r)) ∨ (s.fault = none ∧ step s = .next (takeTurn s))
end

