-- ==== Sys2Proof/Laws/Encoding.lean ====
section
/-! SUPPORT. The laws of the byte layout and of the words of a command, from which the round trip of decode and encode
follows. -/
namespace Sys2Proof

/-- A field of the high part of a concatenation. -/
theorem field_append_high {m n : Nat} (x : BitVec m) (y : BitVec n) : field n m (x ++ y) = x := by
  apply BitVec.eq_of_getLsbD_eq
  intro i hi
  simp [field, BitVec.getLsbD_append, hi]

/-- A field of the low part of a concatenation. -/
theorem field_append_low {m n : Nat} (x : BitVec m) (y : BitVec n) : field 0 n (x ++ y) = y := by
  apply BitVec.eq_of_getLsbD_eq
  intro i hi
  simp [field, BitVec.getLsbD_append, hi]

/-- A field that lies within the low part of a concatenation. -/
theorem field_append_within {m n : Nat} (x : BitVec m) (y : BitVec n) {lo len : Nat} (h : lo + len ≤ n) :
    field lo len (x ++ y) = field lo len y := by
  apply BitVec.eq_of_getLsbD_eq
  intro i hi
  simp only [field, BitVec.getLsbD_extractLsb', BitVec.getLsbD_append]
  simp [show lo + i < n by omega]

/-- A field that lies within the high part of a concatenation. -/
theorem field_append_above {m n : Nat} (x : BitVec m) (y : BitVec n) (lo len : Nat) :
    field (lo + n) len (x ++ y) = field lo len x := by
  apply BitVec.eq_of_getLsbD_eq
  intro i hi
  simp only [field, BitVec.getLsbD_extractLsb', BitVec.getLsbD_append]
  simp [show ¬lo + n + i < n by omega, show lo + n + i - n = lo + i by omega]

/-- The whole of a bit vector as a field. -/
theorem field_full {n : Nat} (x : BitVec n) : field 0 n x = x := by
  apply BitVec.eq_of_getLsbD_eq
  intro i hi
  simp [field, hi]

@[simp] theorem cmd_op (op : Byte) (a24 : BitVec 24) (rest : List Word) : Cmd.op ⟨op ++ a24, rest⟩ = op :=
  field_append_high op a24

@[simp] theorem cmd_a24 (op : Byte) (a24 : BitVec 24) (rest : List Word) : Cmd.a24 ⟨op ++ a24, rest⟩ = a24 :=
  field_append_low op a24

/-- The word whose bytes are the fields of a word is that word. -/
theorem wordOfBytes_fields (w : Word) : wordOfBytes (field 24 8 w) (field 16 8 w) (field 8 8 w) (field 0 8 w) = w := by
  apply BitVec.eq_of_getLsbD_eq
  intro i hi
  simp only [wordOfBytes, field, BitVec.getLsbD_append, BitVec.getLsbD_extractLsb']
  by_cases h1 : i < 8
  · simp [h1]
  · by_cases h2 : i - 8 < 8
    · simp only [h1, h2]; simp [show 8 + (i - 8) = i by omega]
    · by_cases h3 : i - 8 - 8 < 8
      · simp only [h1, h2, h3]; simp [show 16 + (i - 8 - 8) = i by omega]
      · have h4 : i - 8 - 8 - 8 < 8 := by omega
        simp only [h1, h2, h3, h4]; simp [show 24 + (i - 8 - 8 - 8) = i by omega]

theorem takeWord_bytesOfWord (w : Word) (bs : List Byte) : takeWord (bytesOfWord w ++ bs) = some (w, bs) := by
  simp [bytesOfWord, takeWord, wordOfBytes_fields]

theorem takeWords_bytesOfWords (ws : List Word) (bs : List Byte) :
    takeWords ws.length (bytesOfWords ws ++ bs) = some (ws, bs) := by
  induction ws with
  | nil => rfl
  | cons w ws ih =>
    simp [takeWords, bytesOfWords, List.append_assoc, takeWord_bytesOfWord, ih]

/-- The bytes of the word that takeWord reads. -/
theorem bytesOfWord_wordOfBytes (b0 b1 b2 b3 : Byte) : bytesOfWord (wordOfBytes b0 b1 b2 b3) = [b0, b1, b2, b3] := by
  have e0 : field 24 8 (wordOfBytes b0 b1 b2 b3) = b0 := by
    apply BitVec.eq_of_getLsbD_eq
    intro i hi
    simp only [wordOfBytes, field, BitVec.getLsbD_append, BitVec.getLsbD_extractLsb']
    simp [hi, show ¬24 + i < 8 by omega, show ¬24 + i - 8 < 8 by omega, show ¬24 + i - 8 - 8 < 8 by omega,
      show 24 + i - 8 - 8 - 8 = i by omega]
  have e1 : field 16 8 (wordOfBytes b0 b1 b2 b3) = b1 := by
    apply BitVec.eq_of_getLsbD_eq
    intro i hi
    simp only [wordOfBytes, field, BitVec.getLsbD_append, BitVec.getLsbD_extractLsb']
    simp [hi, show ¬16 + i < 8 by omega, show ¬16 + i - 8 < 8 by omega, show 16 + i - 8 - 8 = i by omega]
  have e2 : field 8 8 (wordOfBytes b0 b1 b2 b3) = b2 := by
    apply BitVec.eq_of_getLsbD_eq
    intro i hi
    simp only [wordOfBytes, field, BitVec.getLsbD_append, BitVec.getLsbD_extractLsb']
    simp [hi, show ¬8 + i < 8 by omega]
  have e3 : field 0 8 (wordOfBytes b0 b1 b2 b3) = b3 := by
    apply BitVec.eq_of_getLsbD_eq
    intro i hi
    simp only [wordOfBytes, field, BitVec.getLsbD_append, BitVec.getLsbD_extractLsb']
    simp [hi]
  simp [bytesOfWord, e0, e1, e2, e3]

/-- What takeWord answers, said once. -/
theorem takeWord_eq_some {bs rest : List Byte} {w : Word} (h : takeWord bs = some (w, rest)) :
    bs = bytesOfWord w ++ rest := by
  unfold takeWord at h
  split at h
  · next b0 b1 b2 b3 bs' =>
    simp only [Option.some.injEq, Prod.mk.injEq] at h
    obtain ⟨rfl, rfl⟩ := h
    simp [bytesOfWord_wordOfBytes]
  · simp at h

/-- What takeWords answers, said once. -/
theorem takeWords_eq_some {n : Nat} {bs rest : List Byte} {ws : List Word} (h : takeWords n bs = some (ws, rest)) :
    bs = bytesOfWords ws ++ rest ∧ ws.length = n := by
  induction n generalizing bs ws rest with
  | zero => simp only [takeWords, Option.some.injEq, Prod.mk.injEq] at h; obtain ⟨rfl, rfl⟩ := h; simp [bytesOfWords]
  | succ n ih =>
    simp only [takeWords] at h
    split at h
    · simp at h
    · next w bs' hw =>
      split at h
      · simp at h
      · next ws' bs'' hws =>
        simp only [Option.some.injEq, Prod.mk.injEq] at h
        obtain ⟨rfl, rfl⟩ := h
        obtain ⟨rfl, rfl⟩ := ih hws
        simp [bytesOfWords, takeWord_eq_some hw, List.append_assoc]

end Sys2Proof
end

