-- ==== Sys2Proof/Laws/Memory.lean ====
section
/-! SUPPORT. The laws of memory: a byte written is read back, every other byte is left alone, and every operation keeps
the canonical form. -/
namespace Sys2Proof.Machine

open Sys2Proof

@[simp] theorem memRead_memWrite_same (m : Memory) (a : Nat) (v : Byte) : memRead (memWrite m a v) a = some v := by
  induction m with
  | nil => simp [memWrite, memRead]
  | cons c m ih =>
    obtain ⟨b, u⟩ := c
    simp only [memWrite]
    split
    · simp [memRead]
    · split
      · simp [memRead]
      · have : b ≠ a := fun h => by simp_all
        simp [memRead, this, ih]

theorem memRead_memWrite_other (m : Memory) {a x : Nat} (v : Byte) (h : x ≠ a) :
    memRead (memWrite m a v) x = memRead m x := by
  induction m with
  | nil => simp [memWrite, memRead, Ne.symm h]
  | cons c m ih =>
    obtain ⟨b, u⟩ := c
    simp only [memWrite]
    split
    · simp [memRead, Ne.symm h]
    · split
      · next hab => subst hab; simp [memRead, Ne.symm h]
      · simp only [memRead, ih]

theorem memWfFrom_mono {lo lo' : Nat} {m : Memory} (h : memWfFrom lo m = true) (hl : lo' ≤ lo) :
    memWfFrom lo' m = true := by
  cases m with
  | nil => rfl
  | cons c m =>
    obtain ⟨a, v⟩ := c
    simp only [memWfFrom, Bool.and_eq_true, decide_eq_true_eq] at h ⊢
    exact ⟨⟨by omega, h.1.2⟩, h.2⟩

theorem memWfFrom_memWrite {m : Memory} {lo a : Nat} (v : Byte) (h : memWfFrom lo m = true) (hlo : lo ≤ a)
    (ha : a < 2 ^ 24) : memWfFrom lo (memWrite m a v) = true := by
  induction m generalizing lo with
  | nil => simp [memWrite, memWfFrom, hlo]; omega
  | cons c m ih =>
    obtain ⟨b, u⟩ := c
    simp only [memWfFrom, Bool.and_eq_true, decide_eq_true_eq] at h
    simp only [memWrite]
    split
    · simp only [memWfFrom, Bool.and_eq_true, decide_eq_true_eq]
      exact ⟨⟨hlo, ha⟩, ⟨by omega, h.1.2⟩, h.2⟩
    · split
      · next hab =>
        subst hab
        simp only [memWfFrom, Bool.and_eq_true, decide_eq_true_eq]
        exact ⟨⟨hlo, ha⟩, h.2⟩
      · simp only [memWfFrom, Bool.and_eq_true, decide_eq_true_eq]
        exact ⟨h.1, ih h.2 (by omega)⟩

theorem memWf_memWrite {m : Memory} {a : Nat} (v : Byte) (h : memWf m = true) (ha : a < 2 ^ 24) :
    memWf (memWrite m a v) = true := memWfFrom_memWrite v h (Nat.zero_le _) ha

theorem memWf_memWriteWord {m : Memory} {a : Nat} (w : Word) (h : memWf m = true) (ha : a + 4 ≤ 2 ^ 24) :
    memWf (memWriteWord m a w) = true := by
  unfold memWriteWord
  exact memWf_memWrite _ (memWf_memWrite _ (memWf_memWrite _ (memWf_memWrite _ h (by omega)) (by omega))
    (by omega)) (by omega)

theorem memWf_memWriteWords {ws : List Word} {m : Memory} {a : Nat} (h : memWf m = true)
    (ha : a + 4 * ws.length ≤ 2 ^ 24) : memWf (memWriteWords m a ws) = true := by
  induction ws generalizing m a with
  | nil => exact h
  | cons w ws ih =>
    simp only [List.length_cons] at ha
    exact ih (memWf_memWriteWord w h (by omega)) (by omega)

/-- A word written is read back (20_memory.md R80). -/
@[simp] theorem memReadWord_memWriteWord_same (m : Memory) (a : Nat) (w : Word) :
    memReadWord (memWriteWord m a w) a = some w := by
  have e0 : memRead (memWriteWord m a w) a = some (field 24 8 w) := by
    unfold memWriteWord
    rw [memRead_memWrite_other _ _ (by omega), memRead_memWrite_other _ _ (by omega),
      memRead_memWrite_other _ _ (by omega), memRead_memWrite_same]
  have e1 : memRead (memWriteWord m a w) (a + 1) = some (field 16 8 w) := by
    unfold memWriteWord
    rw [memRead_memWrite_other _ _ (by omega), memRead_memWrite_other _ _ (by omega), memRead_memWrite_same]
  have e2 : memRead (memWriteWord m a w) (a + 2) = some (field 8 8 w) := by
    unfold memWriteWord
    rw [memRead_memWrite_other _ _ (by omega), memRead_memWrite_same]
  have e3 : memRead (memWriteWord m a w) (a + 3) = some (field 0 8 w) := by
    unfold memWriteWord
    rw [memRead_memWrite_same]
  simp [memReadWord, e0, e1, e2, e3, wordOfBytes_fields]

theorem memRead_memWriteWord_other (m : Memory) {a x : Nat} (w : Word) (h : x < a ∨ a + 4 ≤ x) :
    memRead (memWriteWord m a w) x = memRead m x := by
  unfold memWriteWord
  rw [memRead_memWrite_other _ _ (by omega), memRead_memWrite_other _ _ (by omega),
    memRead_memWrite_other _ _ (by omega), memRead_memWrite_other _ _ (by omega)]

theorem memRead_memWriteWords_other {ws : List Word} (m : Memory) {a x : Nat} (h : x < a ∨ a + 4 * ws.length ≤ x) :
    memRead (memWriteWords m a ws) x = memRead m x := by
  induction ws generalizing m a with
  | nil => rfl
  | cons w ws ih =>
    simp only [List.length_cons] at h
    rw [memWriteWords, ih _ (by omega), memRead_memWriteWord_other _ _ (by omega)]

/-- Two memories that agree on a word's bytes read the same word. -/
theorem memReadWord_congr {m m' : Memory} {a : Nat} (h : ∀ x, a ≤ x → x < a + 4 → memRead m x = memRead m' x) :
    memReadWord m a = memReadWord m' a := by
  simp only [memReadWord, h a (by omega) (by omega), h (a + 1) (by omega) (by omega),
    h (a + 2) (by omega) (by omega), h (a + 3) (by omega) (by omega)]

/-- Each of the words written is read back at its place. -/
theorem memReadWord_memWriteWords {ws : List Word} (m : Memory) {a k : Nat} (hk : k < ws.length) :
    memReadWord (memWriteWords m a ws) (a + 4 * k) = ws[k]? := by
  induction ws generalizing m a k with
  | nil => simp at hk
  | cons w ws ih =>
    cases k with
    | zero =>
      rw [memWriteWords]
      have : memReadWord (memWriteWords (memWriteWord m a w) (a + 4) ws) (a + 4 * 0)
          = memReadWord (memWriteWord m a w) (a + 4 * 0) :=
        memReadWord_congr fun x _ hx => memRead_memWriteWords_other _ (.inl (by omega))
      rw [this]; simp
    | succ k =>
      rw [memWriteWords, show a + 4 * (k + 1) = a + 4 + 4 * k by omega, ih _ (by simpa using hk)]
      simp

/-- The reset memory is in canonical form. -/
theorem memWf_reset (p : Params) : memWf (State.resetWith p).mem = true := rfl

end Sys2Proof.Machine
end

