-- ==== Sys2Proof/Laws/State.lean ====
section
/-! SUPPORT. One lemma per field per update of the state, so that no proof unfolds a record update: the turn taken, a
fault raised, an operation issued, commands forwarded, a lookup entry written. -/
namespace Sys2Proof.Machine

open Sys2Proof

@[simp] theorem takeTurn_params (s : State) : (takeTurn s).params = s.params := by unfold takeTurn; split <;> rfl
@[simp] theorem takeTurn_fault (s : State) : (takeTurn s).fault = s.fault := by unfold takeTurn; split <;> rfl
@[simp] theorem takeTurn_lc (s : State) : (takeTurn s).lc = s.lc := by unfold takeTurn; split <;> rfl
@[simp] theorem takeTurn_active (s : State) : (takeTurn s).active = s.active := by unfold takeTurn; split <;> rfl
@[simp] theorem takeTurn_cursor (s : State) : (takeTurn s).cursor = s.cursor := by unfold takeTurn; split <;> rfl
@[simp] theorem takeTurn_switchPending (s : State) : (takeTurn s).switchPending = s.switchPending := by unfold takeTurn; split <;> rfl
@[simp] theorem takeTurn_resN (s : State) : (takeTurn s).resN = s.resN := by unfold takeTurn; split <;> rfl
@[simp] theorem takeTurn_stage (s : State) : (takeTurn s).stage = s.stage := by unfold takeTurn; split <;> rfl
@[simp] theorem takeTurn_mem (s : State) : (takeTurn s).mem = s.mem := by unfold takeTurn; split <;> rfl
@[simp] theorem takeTurn_sig (s : State) : (takeTurn s).sig = s.sig := by unfold takeTurn; split <;> rfl
@[simp] theorem takeTurn_cstate (s : State) : (takeTurn s).cstate = s.cstate := by unfold takeTurn; split <;> rfl
@[simp] theorem takeTurn_cbuf (s : State) : (takeTurn s).cbuf = s.cbuf := by unfold takeTurn; split <;> rfl
@[simp] theorem takeTurn_rpos (s : State) : (takeTurn s).rpos = s.rpos := by unfold takeTurn; split <;> rfl
@[simp] theorem takeTurn_curOvl (s : State) : (takeTurn s).curOvl = s.curOvl := by unfold takeTurn; split <;> rfl
@[simp] theorem takeTurn_ovlValid (s : State) : (takeTurn s).ovlValid = s.ovlValid := by unfold takeTurn; split <;> rfl
@[simp] theorem takeTurn_ovlDesc (s : State) : (takeTurn s).ovlDesc = s.ovlDesc := by unfold takeTurn; split <;> rfl
@[simp] theorem takeTurn_selMap (s : State) : (takeTurn s).selMap = s.selMap := by unfold takeTurn; split <;> rfl
@[simp] theorem takeTurn_lookup (s : State) : (takeTurn s).lookup = s.lookup := by unfold takeTurn; split <;> rfl
@[simp] theorem takeTurn_omHi (s : State) : (takeTurn s).omHi = s.omHi := by unfold takeTurn; split <;> rfl
@[simp] theorem takeTurn_omLo (s : State) : (takeTurn s).omLo = s.omLo := by unfold takeTurn; split <;> rfl
@[simp] theorem takeTurn_ovlState (s : State) : (takeTurn s).ovlState = s.ovlState := by unfold takeTurn; split <;> rfl
@[simp] theorem takeTurn_autosync (s : State) : (takeTurn s).autosync = s.autosync := by unfold takeTurn; split <;> rfl
@[simp] theorem takeTurn_autosyncCfg (s : State) : (takeTurn s).autosyncCfg = s.autosyncCfg := by unfold takeTurn; split <;> rfl
@[simp] theorem takeTurn_fenceQ (s : State) : (takeTurn s).fenceQ = s.fenceQ := by unfold takeTurn; split <;> rfl
@[simp] theorem takeTurn_fenceIssued (s : State) : (takeTurn s).fenceIssued = s.fenceIssued := by unfold takeTurn; split <;> rfl
@[simp] theorem takeTurn_fenceDone (s : State) : (takeTurn s).fenceDone = s.fenceDone := by unfold takeTurn; split <;> rfl
@[simp] theorem takeTurn_rzQ (s : State) : (takeTurn s).rzQ = s.rzQ := by unfold takeTurn; split <;> rfl
@[simp] theorem takeTurn_rzInuse (s : State) : (takeTurn s).rzInuse = s.rzInuse := by unfold takeTurn; split <;> rfl
@[simp] theorem takeTurn_irqPending (s : State) : (takeTurn s).irqPending = s.irqPending := by unfold takeTurn; split <;> rfl
@[simp] theorem takeTurn_rzLog (s : State) : (takeTurn s).rzLog = s.rzLog := by unfold takeTurn; split <;> rfl
@[simp] theorem takeTurn_cbLog (s : State) : (takeTurn s).cbLog = s.cbLog := by unfold takeTurn; split <;> rfl
@[simp] theorem takeTurn_pq (s : State) : (takeTurn s).pq = s.pq := by unfold takeTurn; split <;> rfl
@[simp] theorem takeTurn_result (s : State) : (takeTurn s).result = s.result := by unfold takeTurn; split <;> rfl
@[simp] theorem takeTurn_hostOps (s : State) : (takeTurn s).hostOps = s.hostOps := by unfold takeTurn; split <;> rfl

@[simp] theorem raise_params (s : State) (a : Agent) (code : FaultCode) (info : List Word) :
    (raise s a code info).params = s.params := by unfold raise; split <;> rfl
@[simp] theorem raise_lc (s : State) (a : Agent) (code : FaultCode) (info : List Word) :
    (raise s a code info).lc = s.lc := by unfold raise; split <;> rfl
@[simp] theorem raise_active (s : State) (a : Agent) (code : FaultCode) (info : List Word) :
    (raise s a code info).active = s.active := by unfold raise; split <;> rfl
@[simp] theorem raise_cursor (s : State) (a : Agent) (code : FaultCode) (info : List Word) :
    (raise s a code info).cursor = s.cursor := by unfold raise; split <;> rfl
@[simp] theorem raise_switchPending (s : State) (a : Agent) (code : FaultCode) (info : List Word) :
    (raise s a code info).switchPending = s.switchPending := by unfold raise; split <;> rfl
@[simp] theorem raise_resN (s : State) (a : Agent) (code : FaultCode) (info : List Word) :
    (raise s a code info).resN = s.resN := by unfold raise; split <;> rfl
@[simp] theorem raise_stage (s : State) (a : Agent) (code : FaultCode) (info : List Word) :
    (raise s a code info).stage = s.stage := by unfold raise; split <;> rfl
@[simp] theorem raise_mem (s : State) (a : Agent) (code : FaultCode) (info : List Word) :
    (raise s a code info).mem = s.mem := by unfold raise; split <;> rfl
@[simp] theorem raise_sig (s : State) (a : Agent) (code : FaultCode) (info : List Word) :
    (raise s a code info).sig = s.sig := by unfold raise; split <;> rfl
@[simp] theorem raise_cstate (s : State) (a : Agent) (code : FaultCode) (info : List Word) :
    (raise s a code info).cstate = s.cstate := by unfold raise; split <;> rfl
@[simp] theorem raise_cbuf (s : State) (a : Agent) (code : FaultCode) (info : List Word) :
    (raise s a code info).cbuf = s.cbuf := by unfold raise; split <;> rfl
@[simp] theorem raise_rpos (s : State) (a : Agent) (code : FaultCode) (info : List Word) :
    (raise s a code info).rpos = s.rpos := by unfold raise; split <;> rfl
@[simp] theorem raise_curOvl (s : State) (a : Agent) (code : FaultCode) (info : List Word) :
    (raise s a code info).curOvl = s.curOvl := by unfold raise; split <;> rfl
@[simp] theorem raise_ovlValid (s : State) (a : Agent) (code : FaultCode) (info : List Word) :
    (raise s a code info).ovlValid = s.ovlValid := by unfold raise; split <;> rfl
@[simp] theorem raise_ovlDesc (s : State) (a : Agent) (code : FaultCode) (info : List Word) :
    (raise s a code info).ovlDesc = s.ovlDesc := by unfold raise; split <;> rfl
@[simp] theorem raise_selMap (s : State) (a : Agent) (code : FaultCode) (info : List Word) :
    (raise s a code info).selMap = s.selMap := by unfold raise; split <;> rfl
@[simp] theorem raise_lookup (s : State) (a : Agent) (code : FaultCode) (info : List Word) :
    (raise s a code info).lookup = s.lookup := by unfold raise; split <;> rfl
@[simp] theorem raise_omHi (s : State) (a : Agent) (code : FaultCode) (info : List Word) :
    (raise s a code info).omHi = s.omHi := by unfold raise; split <;> rfl
@[simp] theorem raise_omLo (s : State) (a : Agent) (code : FaultCode) (info : List Word) :
    (raise s a code info).omLo = s.omLo := by unfold raise; split <;> rfl
@[simp] theorem raise_ovlState (s : State) (a : Agent) (code : FaultCode) (info : List Word) :
    (raise s a code info).ovlState = s.ovlState := by unfold raise; split <;> rfl
@[simp] theorem raise_autosync (s : State) (a : Agent) (code : FaultCode) (info : List Word) :
    (raise s a code info).autosync = s.autosync := by unfold raise; split <;> rfl
@[simp] theorem raise_autosyncCfg (s : State) (a : Agent) (code : FaultCode) (info : List Word) :
    (raise s a code info).autosyncCfg = s.autosyncCfg := by unfold raise; split <;> rfl
@[simp] theorem raise_fenceQ (s : State) (a : Agent) (code : FaultCode) (info : List Word) :
    (raise s a code info).fenceQ = s.fenceQ := by unfold raise; split <;> rfl
@[simp] theorem raise_fenceIssued (s : State) (a : Agent) (code : FaultCode) (info : List Word) :
    (raise s a code info).fenceIssued = s.fenceIssued := by unfold raise; split <;> rfl
@[simp] theorem raise_fenceDone (s : State) (a : Agent) (code : FaultCode) (info : List Word) :
    (raise s a code info).fenceDone = s.fenceDone := by unfold raise; split <;> rfl
@[simp] theorem raise_rzQ (s : State) (a : Agent) (code : FaultCode) (info : List Word) :
    (raise s a code info).rzQ = s.rzQ := by unfold raise; split <;> rfl
@[simp] theorem raise_rzInuse (s : State) (a : Agent) (code : FaultCode) (info : List Word) :
    (raise s a code info).rzInuse = s.rzInuse := by unfold raise; split <;> rfl
@[simp] theorem raise_irqPending (s : State) (a : Agent) (code : FaultCode) (info : List Word) :
    (raise s a code info).irqPending = s.irqPending := by unfold raise; split <;> rfl
@[simp] theorem raise_rzLog (s : State) (a : Agent) (code : FaultCode) (info : List Word) :
    (raise s a code info).rzLog = s.rzLog := by unfold raise; split <;> rfl
@[simp] theorem raise_cbLog (s : State) (a : Agent) (code : FaultCode) (info : List Word) :
    (raise s a code info).cbLog = s.cbLog := by unfold raise; split <;> rfl
@[simp] theorem raise_pq (s : State) (a : Agent) (code : FaultCode) (info : List Word) :
    (raise s a code info).pq = s.pq := by unfold raise; split <;> rfl
@[simp] theorem raise_result (s : State) (a : Agent) (code : FaultCode) (info : List Word) :
    (raise s a code info).result = s.result := by unfold raise; split <;> rfl
@[simp] theorem raise_hostOps (s : State) (a : Agent) (code : FaultCode) (info : List Word) :
    (raise s a code info).hostOps = s.hostOps := by unfold raise; split <;> rfl
@[simp] theorem raise_turns (s : State) (a : Agent) (code : FaultCode) (info : List Word) :
    (raise s a code info).turns = s.turns := by unfold raise; split <;> rfl
@[simp] theorem raise_tick (s : State) (a : Agent) (code : FaultCode) (info : List Word) :
    (raise s a code info).tick = s.tick := by unfold raise; split <;> rfl

theorem raise_of_none {s : State} (h : s.fault = none) (a : Agent) (code : FaultCode) (info : List Word) :
    raise s a code info = { s with fault := some ⟨code.cls, code, a, info⟩ } := by simp [raise, h]

theorem raise_of_some {s : State} {r : FaultRecord} (h : s.fault = some r) (a : Agent) (code : FaultCode)
    (info : List Word) : raise s a code info = s := by simp [raise, h]

theorem faulted_eq_raise {s : State} (h : s.fault = none) (a : Agent) (code : FaultCode) (info : List Word) :
    faulted s a code info = raise (takeTurn s) a code info := by
  rw [raise_of_none (by simpa using h)]; rfl

@[simp] theorem faulted_params (s : State) (a : Agent) (code : FaultCode) (info : List Word) :
    (faulted s a code info).params = s.params := by simp [faulted]
@[simp] theorem faulted_lc (s : State) (a : Agent) (code : FaultCode) (info : List Word) :
    (faulted s a code info).lc = s.lc := by simp [faulted]
@[simp] theorem faulted_active (s : State) (a : Agent) (code : FaultCode) (info : List Word) :
    (faulted s a code info).active = s.active := by simp [faulted]
@[simp] theorem faulted_cursor (s : State) (a : Agent) (code : FaultCode) (info : List Word) :
    (faulted s a code info).cursor = s.cursor := by simp [faulted]
@[simp] theorem faulted_switchPending (s : State) (a : Agent) (code : FaultCode) (info : List Word) :
    (faulted s a code info).switchPending = s.switchPending := by simp [faulted]
@[simp] theorem faulted_resN (s : State) (a : Agent) (code : FaultCode) (info : List Word) :
    (faulted s a code info).resN = s.resN := by simp [faulted]
@[simp] theorem faulted_stage (s : State) (a : Agent) (code : FaultCode) (info : List Word) :
    (faulted s a code info).stage = s.stage := by simp [faulted]
@[simp] theorem faulted_mem (s : State) (a : Agent) (code : FaultCode) (info : List Word) :
    (faulted s a code info).mem = s.mem := by simp [faulted]
@[simp] theorem faulted_sig (s : State) (a : Agent) (code : FaultCode) (info : List Word) :
    (faulted s a code info).sig = s.sig := by simp [faulted]
@[simp] theorem faulted_cstate (s : State) (a : Agent) (code : FaultCode) (info : List Word) :
    (faulted s a code info).cstate = s.cstate := by simp [faulted]
@[simp] theorem faulted_cbuf (s : State) (a : Agent) (code : FaultCode) (info : List Word) :
    (faulted s a code info).cbuf = s.cbuf := by simp [faulted]
@[simp] theorem faulted_rpos (s : State) (a : Agent) (code : FaultCode) (info : List Word) :
    (faulted s a code info).rpos = s.rpos := by simp [faulted]
@[simp] theorem faulted_curOvl (s : State) (a : Agent) (code : FaultCode) (info : List Word) :
    (faulted s a code info).curOvl = s.curOvl := by simp [faulted]
@[simp] theorem faulted_ovlValid (s : State) (a : Agent) (code : FaultCode) (info : List Word) :
    (faulted s a code info).ovlValid = s.ovlValid := by simp [faulted]
@[simp] theorem faulted_ovlDesc (s : State) (a : Agent) (code : FaultCode) (info : List Word) :
    (faulted s a code info).ovlDesc = s.ovlDesc := by simp [faulted]
@[simp] theorem faulted_selMap (s : State) (a : Agent) (code : FaultCode) (info : List Word) :
    (faulted s a code info).selMap = s.selMap := by simp [faulted]
@[simp] theorem faulted_lookup (s : State) (a : Agent) (code : FaultCode) (info : List Word) :
    (faulted s a code info).lookup = s.lookup := by simp [faulted]
@[simp] theorem faulted_omHi (s : State) (a : Agent) (code : FaultCode) (info : List Word) :
    (faulted s a code info).omHi = s.omHi := by simp [faulted]
@[simp] theorem faulted_omLo (s : State) (a : Agent) (code : FaultCode) (info : List Word) :
    (faulted s a code info).omLo = s.omLo := by simp [faulted]
@[simp] theorem faulted_ovlState (s : State) (a : Agent) (code : FaultCode) (info : List Word) :
    (faulted s a code info).ovlState = s.ovlState := by simp [faulted]
@[simp] theorem faulted_autosync (s : State) (a : Agent) (code : FaultCode) (info : List Word) :
    (faulted s a code info).autosync = s.autosync := by simp [faulted]
@[simp] theorem faulted_autosyncCfg (s : State) (a : Agent) (code : FaultCode) (info : List Word) :
    (faulted s a code info).autosyncCfg = s.autosyncCfg := by simp [faulted]
@[simp] theorem faulted_fenceQ (s : State) (a : Agent) (code : FaultCode) (info : List Word) :
    (faulted s a code info).fenceQ = s.fenceQ := by simp [faulted]
@[simp] theorem faulted_fenceIssued (s : State) (a : Agent) (code : FaultCode) (info : List Word) :
    (faulted s a code info).fenceIssued = s.fenceIssued := by simp [faulted]
@[simp] theorem faulted_fenceDone (s : State) (a : Agent) (code : FaultCode) (info : List Word) :
    (faulted s a code info).fenceDone = s.fenceDone := by simp [faulted]
@[simp] theorem faulted_rzQ (s : State) (a : Agent) (code : FaultCode) (info : List Word) :
    (faulted s a code info).rzQ = s.rzQ := by simp [faulted]
@[simp] theorem faulted_rzInuse (s : State) (a : Agent) (code : FaultCode) (info : List Word) :
    (faulted s a code info).rzInuse = s.rzInuse := by simp [faulted]
@[simp] theorem faulted_irqPending (s : State) (a : Agent) (code : FaultCode) (info : List Word) :
    (faulted s a code info).irqPending = s.irqPending := by simp [faulted]
@[simp] theorem faulted_rzLog (s : State) (a : Agent) (code : FaultCode) (info : List Word) :
    (faulted s a code info).rzLog = s.rzLog := by simp [faulted]
@[simp] theorem faulted_cbLog (s : State) (a : Agent) (code : FaultCode) (info : List Word) :
    (faulted s a code info).cbLog = s.cbLog := by simp [faulted]
@[simp] theorem faulted_pq (s : State) (a : Agent) (code : FaultCode) (info : List Word) :
    (faulted s a code info).pq = s.pq := by simp [faulted]
@[simp] theorem faulted_result (s : State) (a : Agent) (code : FaultCode) (info : List Word) :
    (faulted s a code info).result = s.result := by simp [faulted]
@[simp] theorem faulted_hostOps (s : State) (a : Agent) (code : FaultCode) (info : List Word) :
    (faulted s a code info).hostOps = s.hostOps := by simp [faulted]
@[simp] theorem faulted_fault (s : State) (a : Agent) (code : FaultCode) (info : List Word) :
    (faulted s a code info).fault = some ⟨code.cls, code, a, info⟩ := rfl

@[simp] theorem issued_params (s : State) (ops : List PortOp) : (issued s ops).params = s.params := by simp [issued]
@[simp] theorem issued_fault (s : State) (ops : List PortOp) : (issued s ops).fault = s.fault := by simp [issued]
@[simp] theorem issued_lc (s : State) (ops : List PortOp) : (issued s ops).lc = s.lc := by simp [issued]
@[simp] theorem issued_active (s : State) (ops : List PortOp) : (issued s ops).active = s.active := by simp [issued]
@[simp] theorem issued_cursor (s : State) (ops : List PortOp) : (issued s ops).cursor = s.cursor := by simp [issued]
@[simp] theorem issued_switchPending (s : State) (ops : List PortOp) : (issued s ops).switchPending = s.switchPending := by simp [issued]
@[simp] theorem issued_resN (s : State) (ops : List PortOp) : (issued s ops).resN = s.resN := by simp [issued]
@[simp] theorem issued_stage (s : State) (ops : List PortOp) : (issued s ops).stage = s.stage := by simp [issued]
@[simp] theorem issued_mem (s : State) (ops : List PortOp) : (issued s ops).mem = s.mem := by simp [issued]
@[simp] theorem issued_sig (s : State) (ops : List PortOp) : (issued s ops).sig = s.sig := by simp [issued]
@[simp] theorem issued_cstate (s : State) (ops : List PortOp) : (issued s ops).cstate = s.cstate := by simp [issued]
@[simp] theorem issued_cbuf (s : State) (ops : List PortOp) : (issued s ops).cbuf = s.cbuf := by simp [issued]
@[simp] theorem issued_rpos (s : State) (ops : List PortOp) : (issued s ops).rpos = s.rpos := by simp [issued]
@[simp] theorem issued_curOvl (s : State) (ops : List PortOp) : (issued s ops).curOvl = s.curOvl := by simp [issued]
@[simp] theorem issued_ovlValid (s : State) (ops : List PortOp) : (issued s ops).ovlValid = s.ovlValid := by simp [issued]
@[simp] theorem issued_ovlDesc (s : State) (ops : List PortOp) : (issued s ops).ovlDesc = s.ovlDesc := by simp [issued]
@[simp] theorem issued_selMap (s : State) (ops : List PortOp) : (issued s ops).selMap = s.selMap := by simp [issued]
@[simp] theorem issued_lookup (s : State) (ops : List PortOp) : (issued s ops).lookup = s.lookup := by simp [issued]
@[simp] theorem issued_omHi (s : State) (ops : List PortOp) : (issued s ops).omHi = s.omHi := by simp [issued]
@[simp] theorem issued_omLo (s : State) (ops : List PortOp) : (issued s ops).omLo = s.omLo := by simp [issued]
@[simp] theorem issued_ovlState (s : State) (ops : List PortOp) : (issued s ops).ovlState = s.ovlState := by simp [issued]
@[simp] theorem issued_autosync (s : State) (ops : List PortOp) : (issued s ops).autosync = s.autosync := by simp [issued]
@[simp] theorem issued_autosyncCfg (s : State) (ops : List PortOp) : (issued s ops).autosyncCfg = s.autosyncCfg := by simp [issued]
@[simp] theorem issued_fenceQ (s : State) (ops : List PortOp) : (issued s ops).fenceQ = s.fenceQ := by simp [issued]
@[simp] theorem issued_fenceIssued (s : State) (ops : List PortOp) : (issued s ops).fenceIssued = s.fenceIssued := by simp [issued]
@[simp] theorem issued_fenceDone (s : State) (ops : List PortOp) : (issued s ops).fenceDone = s.fenceDone := by simp [issued]
@[simp] theorem issued_rzQ (s : State) (ops : List PortOp) : (issued s ops).rzQ = s.rzQ := by simp [issued]
@[simp] theorem issued_rzInuse (s : State) (ops : List PortOp) : (issued s ops).rzInuse = s.rzInuse := by simp [issued]
@[simp] theorem issued_irqPending (s : State) (ops : List PortOp) : (issued s ops).irqPending = s.irqPending := by simp [issued]
@[simp] theorem issued_rzLog (s : State) (ops : List PortOp) : (issued s ops).rzLog = s.rzLog := by simp [issued]
@[simp] theorem issued_cbLog (s : State) (ops : List PortOp) : (issued s ops).cbLog = s.cbLog := by simp [issued]
@[simp] theorem issued_pq (s : State) (ops : List PortOp) : (issued s ops).pq = s.pq := by simp [issued]
@[simp] theorem issued_result (s : State) (ops : List PortOp) : (issued s ops).result = s.result := by simp [issued]
@[simp] theorem issued_hostOps (s : State) (ops : List PortOp) : (issued s ops).hostOps = ops := rfl

@[simp] theorem forward_params (s : State) (out : List Cmd) : (forward s out).params = s.params := rfl
@[simp] theorem forward_fault (s : State) (out : List Cmd) : (forward s out).fault = s.fault := rfl
@[simp] theorem forward_lc (s : State) (out : List Cmd) : (forward s out).lc = s.lc := rfl
@[simp] theorem forward_active (s : State) (out : List Cmd) : (forward s out).active = s.active := rfl
@[simp] theorem forward_cursor (s : State) (out : List Cmd) : (forward s out).cursor = s.cursor := rfl
@[simp] theorem forward_switchPending (s : State) (out : List Cmd) : (forward s out).switchPending = s.switchPending := rfl
@[simp] theorem forward_resN (s : State) (out : List Cmd) : (forward s out).resN = s.resN := rfl
@[simp] theorem forward_stage (s : State) (out : List Cmd) : (forward s out).stage = s.stage := rfl
@[simp] theorem forward_mem (s : State) (out : List Cmd) : (forward s out).mem = s.mem := rfl
@[simp] theorem forward_sig (s : State) (out : List Cmd) : (forward s out).sig = s.sig := rfl
@[simp] theorem forward_cstate (s : State) (out : List Cmd) : (forward s out).cstate = s.cstate := rfl
@[simp] theorem forward_cbuf (s : State) (out : List Cmd) : (forward s out).cbuf = s.cbuf := rfl
@[simp] theorem forward_rpos (s : State) (out : List Cmd) : (forward s out).rpos = s.rpos := rfl
@[simp] theorem forward_curOvl (s : State) (out : List Cmd) : (forward s out).curOvl = s.curOvl := rfl
@[simp] theorem forward_ovlValid (s : State) (out : List Cmd) : (forward s out).ovlValid = s.ovlValid := rfl
@[simp] theorem forward_ovlDesc (s : State) (out : List Cmd) : (forward s out).ovlDesc = s.ovlDesc := rfl
@[simp] theorem forward_selMap (s : State) (out : List Cmd) : (forward s out).selMap = s.selMap := rfl
@[simp] theorem forward_lookup (s : State) (out : List Cmd) : (forward s out).lookup = s.lookup := rfl
@[simp] theorem forward_ovlState (s : State) (out : List Cmd) : (forward s out).ovlState = s.ovlState := rfl
@[simp] theorem forward_autosync (s : State) (out : List Cmd) : (forward s out).autosync = s.autosync := rfl
@[simp] theorem forward_autosyncCfg (s : State) (out : List Cmd) : (forward s out).autosyncCfg = s.autosyncCfg := rfl
@[simp] theorem forward_fenceQ (s : State) (out : List Cmd) : (forward s out).fenceQ = s.fenceQ := rfl
@[simp] theorem forward_fenceIssued (s : State) (out : List Cmd) : (forward s out).fenceIssued = s.fenceIssued := rfl
@[simp] theorem forward_fenceDone (s : State) (out : List Cmd) : (forward s out).fenceDone = s.fenceDone := rfl
@[simp] theorem forward_rzInuse (s : State) (out : List Cmd) : (forward s out).rzInuse = s.rzInuse := rfl
@[simp] theorem forward_irqPending (s : State) (out : List Cmd) : (forward s out).irqPending = s.irqPending := rfl
@[simp] theorem forward_rzLog (s : State) (out : List Cmd) : (forward s out).rzLog = s.rzLog := rfl
@[simp] theorem forward_cbLog (s : State) (out : List Cmd) : (forward s out).cbLog = s.cbLog := rfl
@[simp] theorem forward_pq (s : State) (out : List Cmd) : (forward s out).pq = s.pq := rfl
@[simp] theorem forward_result (s : State) (out : List Cmd) : (forward s out).result = s.result := rfl
@[simp] theorem forward_hostOps (s : State) (out : List Cmd) : (forward s out).hostOps = s.hostOps := rfl
@[simp] theorem forward_turns (s : State) (out : List Cmd) : (forward s out).turns = s.turns := rfl
@[simp] theorem forward_tick (s : State) (out : List Cmd) : (forward s out).tick = s.tick := rfl
@[simp] theorem forward_rzQ (s : State) (out : List Cmd) : (forward s out).rzQ = s.rzQ ++ out := rfl
@[simp] theorem forward_omHi (s : State) (out : List Cmd) : (forward s out).omHi = omHiAfter s.omHi out := rfl
@[simp] theorem forward_omLo (s : State) (out : List Cmd) : (forward s out).omLo = omLoAfter s.omLo out := rfl

@[simp] theorem lookupWrite_params (s : State) (i : BitVec 4) (a : Addr) : (lookupWrite s i a).params = s.params := by
  unfold lookupWrite; split <;> rfl
@[simp] theorem lookupWrite_fault (s : State) (i : BitVec 4) (a : Addr) : (lookupWrite s i a).fault = s.fault := by
  unfold lookupWrite; split <;> rfl
@[simp] theorem lookupWrite_lc (s : State) (i : BitVec 4) (a : Addr) : (lookupWrite s i a).lc = s.lc := by
  unfold lookupWrite; split <;> rfl
@[simp] theorem lookupWrite_active (s : State) (i : BitVec 4) (a : Addr) : (lookupWrite s i a).active = s.active := by
  unfold lookupWrite; split <;> rfl
@[simp] theorem lookupWrite_cursor (s : State) (i : BitVec 4) (a : Addr) : (lookupWrite s i a).cursor = s.cursor := by
  unfold lookupWrite; split <;> rfl
@[simp] theorem lookupWrite_switchPending (s : State) (i : BitVec 4) (a : Addr) : (lookupWrite s i a).switchPending = s.switchPending := by
  unfold lookupWrite; split <;> rfl
@[simp] theorem lookupWrite_resN (s : State) (i : BitVec 4) (a : Addr) : (lookupWrite s i a).resN = s.resN := by
  unfold lookupWrite; split <;> rfl
@[simp] theorem lookupWrite_stage (s : State) (i : BitVec 4) (a : Addr) : (lookupWrite s i a).stage = s.stage := by
  unfold lookupWrite; split <;> rfl
@[simp] theorem lookupWrite_mem (s : State) (i : BitVec 4) (a : Addr) : (lookupWrite s i a).mem = s.mem := by
  unfold lookupWrite; split <;> rfl
@[simp] theorem lookupWrite_sig (s : State) (i : BitVec 4) (a : Addr) : (lookupWrite s i a).sig = s.sig := by
  unfold lookupWrite; split <;> rfl
@[simp] theorem lookupWrite_cstate (s : State) (i : BitVec 4) (a : Addr) : (lookupWrite s i a).cstate = s.cstate := by
  unfold lookupWrite; split <;> rfl
@[simp] theorem lookupWrite_cbuf (s : State) (i : BitVec 4) (a : Addr) : (lookupWrite s i a).cbuf = s.cbuf := by
  unfold lookupWrite; split <;> rfl
@[simp] theorem lookupWrite_rpos (s : State) (i : BitVec 4) (a : Addr) : (lookupWrite s i a).rpos = s.rpos := by
  unfold lookupWrite; split <;> rfl
@[simp] theorem lookupWrite_curOvl (s : State) (i : BitVec 4) (a : Addr) : (lookupWrite s i a).curOvl = s.curOvl := by
  unfold lookupWrite; split <;> rfl
@[simp] theorem lookupWrite_ovlValid (s : State) (i : BitVec 4) (a : Addr) : (lookupWrite s i a).ovlValid = s.ovlValid := by
  unfold lookupWrite; split <;> rfl
@[simp] theorem lookupWrite_ovlDesc (s : State) (i : BitVec 4) (a : Addr) : (lookupWrite s i a).ovlDesc = s.ovlDesc := by
  unfold lookupWrite; split <;> rfl
@[simp] theorem lookupWrite_selMap (s : State) (i : BitVec 4) (a : Addr) : (lookupWrite s i a).selMap = s.selMap := by
  unfold lookupWrite; split <;> rfl
@[simp] theorem lookupWrite_omHi (s : State) (i : BitVec 4) (a : Addr) : (lookupWrite s i a).omHi = s.omHi := by
  unfold lookupWrite; split <;> rfl
@[simp] theorem lookupWrite_omLo (s : State) (i : BitVec 4) (a : Addr) : (lookupWrite s i a).omLo = s.omLo := by
  unfold lookupWrite; split <;> rfl
@[simp] theorem lookupWrite_ovlState (s : State) (i : BitVec 4) (a : Addr) : (lookupWrite s i a).ovlState = s.ovlState := by
  unfold lookupWrite; split <;> rfl
@[simp] theorem lookupWrite_autosync (s : State) (i : BitVec 4) (a : Addr) : (lookupWrite s i a).autosync = s.autosync := by
  unfold lookupWrite; split <;> rfl
@[simp] theorem lookupWrite_autosyncCfg (s : State) (i : BitVec 4) (a : Addr) : (lookupWrite s i a).autosyncCfg = s.autosyncCfg := by
  unfold lookupWrite; split <;> rfl
@[simp] theorem lookupWrite_fenceQ (s : State) (i : BitVec 4) (a : Addr) : (lookupWrite s i a).fenceQ = s.fenceQ := by
  unfold lookupWrite; split <;> rfl
@[simp] theorem lookupWrite_fenceIssued (s : State) (i : BitVec 4) (a : Addr) : (lookupWrite s i a).fenceIssued = s.fenceIssued := by
  unfold lookupWrite; split <;> rfl
@[simp] theorem lookupWrite_fenceDone (s : State) (i : BitVec 4) (a : Addr) : (lookupWrite s i a).fenceDone = s.fenceDone := by
  unfold lookupWrite; split <;> rfl
@[simp] theorem lookupWrite_rzQ (s : State) (i : BitVec 4) (a : Addr) : (lookupWrite s i a).rzQ = s.rzQ := by
  unfold lookupWrite; split <;> rfl
@[simp] theorem lookupWrite_rzInuse (s : State) (i : BitVec 4) (a : Addr) : (lookupWrite s i a).rzInuse = s.rzInuse := by
  unfold lookupWrite; split <;> rfl
@[simp] theorem lookupWrite_irqPending (s : State) (i : BitVec 4) (a : Addr) : (lookupWrite s i a).irqPending = s.irqPending := by
  unfold lookupWrite; split <;> rfl
@[simp] theorem lookupWrite_rzLog (s : State) (i : BitVec 4) (a : Addr) : (lookupWrite s i a).rzLog = s.rzLog := by
  unfold lookupWrite; split <;> rfl
@[simp] theorem lookupWrite_cbLog (s : State) (i : BitVec 4) (a : Addr) : (lookupWrite s i a).cbLog = s.cbLog := by
  unfold lookupWrite; split <;> rfl
@[simp] theorem lookupWrite_pq (s : State) (i : BitVec 4) (a : Addr) : (lookupWrite s i a).pq = s.pq := by
  unfold lookupWrite; split <;> rfl
@[simp] theorem lookupWrite_result (s : State) (i : BitVec 4) (a : Addr) : (lookupWrite s i a).result = s.result := by
  unfold lookupWrite; split <;> rfl
@[simp] theorem lookupWrite_hostOps (s : State) (i : BitVec 4) (a : Addr) : (lookupWrite s i a).hostOps = s.hostOps := by
  unfold lookupWrite; split <;> rfl
@[simp] theorem lookupWrite_turns (s : State) (i : BitVec 4) (a : Addr) : (lookupWrite s i a).turns = s.turns := by
  unfold lookupWrite; split <;> rfl
@[simp] theorem lookupWrite_tick (s : State) (i : BitVec 4) (a : Addr) : (lookupWrite s i a).tick = s.tick := by
  unfold lookupWrite; split <;> rfl

/-- Entry 0 is never written (45_fixup_commands.md R370). -/
theorem lookupWrite_lookup (s : State) (i : BitVec 4) (a : Addr) :
    (lookupWrite s i a).lookup = if i = 0 then s.lookup else s.lookup.set i.toFin a := by
  unfold lookupWrite; split <;> rfl

end Sys2Proof.Machine
end

