-- ==== Sys2Proof/Laws/Ops.lean ====
section
/-! SUPPORT. For each shared operation one lemma that says once everything it can do. -/
namespace Sys2Proof.Machine

open Sys2Proof

/-! ### Outcomes -/

/-- A step that settles to a next state either completed, or raised a fault and wrote nothing else. -/
theorem settle_next {a : Agent} {s t : State} {r : Except Halt State} (h : settle a s r = .next t) :
    r = .ok t ∨ ∃ code info, r = .error (.raise code info) ∧ t = raise s a code info := by
  unfold settle at h
  split at h
  · exact .inl (by simpa using h)
  · next code info => exact .inr ⟨code, info, rfl, by simpa using h.symm⟩
  · simp at h

@[simp] theorem settle_ok (a : Agent) (s t : State) : settle a s (.ok t) = .next t := rfl

@[simp] theorem settle_raise (a : Agent) (s : State) (code : FaultCode) (info : List Word) :
    settle a s (.error (.raise code info)) = .next (raise s a code info) := rfl

/-- A step never settles to a refusal. -/
theorem settle_ne_refused {a : Agent} {s : State} {r : Except Halt State} {f : Refusal} :
    settle a s r ≠ .refused f := by
  unfold settle; split <;> simp

/-! ### Ring memory -/

/-- What a ring read answers. -/
theorem ringRead_ok {s : State} {b : RingBuf} {i : Nat} {w : Word} (h : ringRead s b i = .ok w) :
    i ≤ s.params.cap ∧ ringFits s.params b = true ∧ memReadWord s.mem (ringAddr s.params b i) = some w := by
  unfold ringRead at h
  split at h
  · simp at h
  · split at h
    · simp at h
    · split at h
      · simp at h
      · next hw => simp_all

/-- A ring read depends on the parameters and the memory alone. -/
theorem ringRead_congr {s t : State} (hp : t.params = s.params) (hm : t.mem = s.mem) (b : RingBuf) (i : Nat) :
    ringRead t b i = ringRead s b i := by simp [ringRead, hp, hm]

theorem ringReads_congr {s t : State} (hp : t.params = s.params) (hm : t.mem = s.mem) (b : RingBuf) (i n : Nat) :
    ringReads t b i n = ringReads s b i n := by
  induction n generalizing i with
  | zero => rfl
  | succ n ih => simp only [ringReads, ringRead_congr hp hm, ih]

/-- Reading one word more at the front. -/
theorem ringReads_cons {s : State} {b : RingBuf} {i n : Nat} {w : Word} {ws : List Word} :
    ringReads s b i (n + 1) = .ok (w :: ws) ↔ ringRead s b i = .ok w ∧ ringReads s b (i + 1) n = .ok ws := by
  simp only [ringReads]
  split
  · next h => simp [h]
  · next h =>
    split
    · next h' => simp [h, h']
    · next h' => simp [h, h']

/-- Reading answers as many words as asked. -/
theorem ringReads_length {s : State} {b : RingBuf} {i n : Nat} {ws : List Word} (h : ringReads s b i n = .ok ws) :
    ws.length = n := by
  induction n generalizing i ws with
  | zero => simp only [ringReads, Except.ok.injEq] at h; simp [← h]
  | succ n ih =>
    cases ws with
    | nil =>
      simp only [ringReads] at h
      split at h
      · simp at h
      · split at h <;> simp at h
    | cons w ws => rw [ringReads_cons] at h; simp [ih h.2]

/-- Reading a run of words is reading its two parts. -/
theorem ringReads_append {s : State} {b : RingBuf} {i : Nat} {us vs : List Word} :
    ringReads s b i (us.length + vs.length) = .ok (us ++ vs) ↔
      ringReads s b i us.length = .ok us ∧ ringReads s b (i + us.length) vs.length = .ok vs := by
  induction us generalizing i with
  | nil => simp [ringReads]
  | cons u us ih =>
    rw [show (u :: us).length + vs.length = (us.length + vs.length) + 1 by simp; omega, List.cons_append,
      ringReads_cons, ih, List.length_cons, ringReads_cons, show i + (us.length + 1) = i + 1 + us.length by omega]
    exact and_assoc.symm

/-- What a ring write answers: only memory changes, inside the ring. -/
theorem ringWrite_ok {s t : State} {b : RingBuf} {i : Nat} {ws : List Word} (h : ringWrite s b i ws = .ok t) :
    i + ws.length ≤ s.params.cap + 1 ∧ ringFits s.params b = true
      ∧ t = { s with mem := memWriteWords s.mem (ringAddr s.params b i) ws } := by
  unfold ringWrite at h
  split at h
  · simp at h
  · split at h
    · simp at h
    · next hc hf => exact ⟨by omega, by simpa using hf, by simpa using h.symm⟩

/-- A ring write keeps the canonical form of memory. -/
theorem memWf_ringWrite {s t : State} {b : RingBuf} {i : Nat} {ws : List Word} (h : ringWrite s b i ws = .ok t)
    (hw : memWf s.mem = true) : memWf t.mem = true := by
  obtain ⟨h1, h2, rfl⟩ := ringWrite_ok h
  refine memWf_memWriteWords hw ?_
  have h3 := of_decide_eq_true h2
  unfold ringAddr at h3 ⊢
  omega

/-! ### The consumer's operations -/

/-- What the extent check answers (43_consumer_dispatch.md R260). -/
theorem overlayExtent_ok {s : State} {op : Byte} {id : Fin 16} {n : Nat} (h : overlayExtent s op = .ok (id, n)) :
    s.selMap[selOf op] = some id ∧ n = (opSize s op).getD 0 ∧ n ≠ 0 ∧ s.rpos + n ≤ s.params.cap := by
  unfold overlayExtent at h
  split at h
  · simp at h
  · next id' hid =>
    simp only at h
    split at h
    · simp at h
    · split at h
      · simp at h
      · next h0 hc =>
        simp only [Except.ok.injEq, Prod.mk.injEq] at h
        obtain ⟨rfl, rfl⟩ := h
        exact ⟨hid, rfl, h0, by omega⟩

/-- When the extent check passes. -/
theorem overlayExtent_eq {s : State} {op : Byte} {id : Fin 16} {n : Nat} (hs : s.selMap[selOf op] = some id)
    (hn : opSize s op = some (n + 1)) (hc : s.rpos + (n + 1) ≤ s.params.cap) :
    overlayExtent s op = .ok (id, n + 1) := by
  simp [overlayExtent, hs, hn, Nat.not_lt.mpr hc]

/-- What the commit does (R260, R276, R277): it passes the mode check, and stalls or commits. -/
theorem commitCommand_ok {s t u : State} {id : Fin 16} {n : Nat} {out : List Cmd}
    (h : commitCommand s id n out t = .ok u) :
    flipInCopy s.omHi out = none
      ∧ (s.params.rzqCap < s.rzQ.length + out.length ∧ u = s
        ∨ s.rzQ.length + out.length ≤ s.params.rzqCap
          ∧ u = { forward t out with curOvl := id, rpos := s.rpos + n }) := by
  unfold commitCommand at h
  split at h
  · simp at h
  · next hf =>
    split at h
    · next hc => exact ⟨hf, .inl ⟨hc, by simpa using h.symm⟩⟩
    · next hc => exact ⟨hf, .inr ⟨by omega, by simpa using h.symm⟩⟩

/-- What a client handler does (R275): it answers commands it may forward, and writes its own state only. -/
theorem clientHandler_ok {s t : State} {id : Fin 16} {c : Cmd} {out : List Cmd}
    (h : clientHandler s id c = .ok (out, t)) :
    ∃ hd st, s.ovlDesc[id].handler = .client hd ∧ handlerValue hd c.op c s.ovlState[id] = .ok out st
      ∧ (∀ d ∈ out, mayNotForward d = false) ∧ out.length ≤ s.params.rzqCap
      ∧ t = { s with ovlState := s.ovlState.set id st } := by
  unfold clientHandler at h
  split at h
  · next hd hh =>
    split at h
    · simp at h
    · next out' st hv =>
      split at h
      · simp at h
      · next hfind =>
        split at h
        · simp at h
        · next hcap =>
          simp only [Except.ok.injEq, Prod.mk.injEq] at h
          obtain ⟨rfl, rfl⟩ := h
          exact ⟨hd, st, hh, hv, by simpa using hfind, by omega, rfl⟩
  · simp at h

/-- What a dispatched command does when it raises nothing (R260). -/
theorem dispatch_ok {s u : State} {c : Cmd} {builtin : Option (List Cmd × State)} (h : dispatch s c builtin = .ok u) :
    ∃ id n out t, overlayExtent s c.op = .ok (id, n) ∧ handlerOf s id c builtin = .ok (out, t)
      ∧ commitCommand s id n out t = .ok u := by
  unfold dispatch at h
  split at h
  · simp at h
  · next id n he =>
    split at h
    · simp at h
    · next out t hh => exact ⟨id, n, out, t, he, hh, h⟩

/-- The handler of a dispatched command: the built-in overlay's, or the client's. -/
theorem handlerOf_ok {s t : State} {id : Fin 16} {c : Cmd} {builtin : Option (List Cmd × State)} {out : List Cmd}
    (h : handlerOf s id c builtin = .ok (out, t)) :
    id = 1 ∧ builtin = some (out, t) ∨ id ≠ 1 ∧ clientHandler s id c = .ok (out, t) := by
  unfold handlerOf at h
  split at h
  · next hid =>
    split at h
    · exact .inl ⟨hid, by simpa using h⟩
    · simp at h
  · next hid => exact .inr ⟨hid, h⟩

/-- A built-in command that is ready and forwards `out` commits. -/
theorem dispatch_builtin {s t : State} {c : Cmd} {out : List Cmd} {n : Nat} (hs : s.selMap[selOf c.op] = some 1)
    (hn : opSize s c.op = some (n + 1)) (hc : s.rpos + (n + 1) ≤ s.params.cap)
    (hq : s.rzQ.length + out.length ≤ s.params.rzqCap) (hf : flipInCopy s.omHi out = none) :
    dispatch s c (some (out, t)) = .ok { forward t out with curOvl := 1, rpos := s.rpos + (n + 1) } := by
  simp [dispatch, overlayExtent_eq hs hn hc, handlerOf, commitCommand, hf, Nat.not_lt.mpr hq]

/-! ### The producer's micro-steps -/

/-- What EMIT does (40_ring_buffer.md R160). -/
theorem emitCommand_ok {s t : State} {c : Cmd} (h : emitCommand s c = .ok t) :
    s.cursor + c.size ≤ s.params.cap ∧ ringFits s.params s.active = true
      ∧ t = { s with
          mem := memWriteWords s.mem (ringAddr s.params s.active s.cursor) (c.words ++ [0])
          cursor := s.cursor + c.size
          sig := true
          cstate := .run
          switchPending := s.switchPending || decide (s.params.sentinel < s.cursor + c.size)
          pq := if s.params.sentinel < s.cursor + c.size then .switch :: s.pq else s.pq } := by
  unfold emitCommand at h
  split at h
  · simp at h
  · next s1 hw =>
    obtain ⟨h1, h2, rfl⟩ := ringWrite_ok hw
    simp only [Except.ok.injEq] at h
    subst h
    refine ⟨?_, h2, ?_⟩
    · simp only [Cmd.words, Cmd.size, List.cons_append, List.length_cons, List.length_append, List.length_nil] at h1 ⊢
      omega
    · split <;> simp_all

/-- What SWITCH does once its guard holds (40_ring_buffer.md R165). -/
theorem switchBuffer_ok {s t : State} (h : switchBuffer s = .ok t) :
    s.cursor ≤ s.params.cap ∧ ringFits s.params s.active = true ∧ ringFits s.params s.active.other = true
      ∧ t = { s with
          mem := memWriteWords
            (memWriteWords s.mem (ringAddr s.params s.active.other 0) (List.replicate (s.params.cap + 1) 0))
            (ringAddr s.params s.active s.cursor) [jumpWord s.params s.active.other]
          active := s.active.other
          cursor := 0
          switchPending := false
          sig := true
          cstate := .run } := by
  unfold switchBuffer at h
  split at h
  · simp at h
  · next s1 hw1 =>
    obtain ⟨_, h2, rfl⟩ := ringWrite_ok hw1
    split at h
    · simp at h
    · next s2 hw2 =>
      obtain ⟨h3, h4, rfl⟩ := ringWrite_ok hw2
      simp only [Except.ok.injEq] at h
      exact ⟨by simp only [List.length_cons, List.length_nil] at h3; omega, h4, h2, h.symm⟩

/-- The words of two lists of commands. -/
@[simp] theorem flatWords_append (q1 q2 : List Cmd) : flatWords (q1 ++ q2) = flatWords q1 ++ flatWords q2 := by
  induction q1 with
  | nil => rfl
  | cons c q1 ih => simp [flatWords, ih, List.append_assoc]

@[simp] theorem flatWords_nil : flatWords [] = [] := rfl

/-- A command has at least one word, so a list of no words is a list of no commands. -/
theorem flatWords_eq_nil {q : List Cmd} : flatWords q = [] ↔ q = [] := by
  cases q <;> simp [flatWords, Cmd.words]

@[simp] theorem emitsOf_append (p q : List MicroStep) : emitsOf (p ++ q) = emitsOf p ++ emitsOf q := by
  induction p with
  | nil => rfl
  | cons m p ih => cases m <;> simp [emitsOf, ih]

/-! ### The parameter UNSUPPORTED (00_scope.md R10) -/

/-- A pattern whose masks are all ones describes its own words only. -/
theorem wordsMatch_exact {us ws : List Word} :
    wordsMatch (us.map fun u => (BitVec.allOnes 32, u)) ws = true ↔ us = ws := by
  induction us generalizing ws with
  | nil => cases ws <;> simp [wordsMatch]
  | cons u us ih =>
    cases ws with
    | nil => simp [wordsMatch]
    | cons w ws =>
      simp only [List.map_cons, wordsMatch, Bool.and_eq_true, decide_eq_true_eq, BitVec.and_allOnes, ih, List.cons.injEq]
      exact and_congr_left' eq_comm

/-- A pattern describes commands of its own length only. -/
theorem length_eq_of_wordsMatch {ps : List (Word × Word)} {ws : List Word} (h : wordsMatch ps ws = true) :
    ps.length = ws.length := by
  induction ps generalizing ws with
  | nil => cases ws with
    | nil => rfl
    | cons w ws => cases h
  | cons p ps ih => cases ws with
    | nil => cases h
    | cons w ws => simp only [wordsMatch, Bool.and_eq_true] at h; simp [ih h.2]

/-- Lists of patterns are every predicate on the commands of at most `n` words, MAX_CMD among the bounds (log 8). -/
theorem unsupported_complete (p : Params) (n : Nat) (unsupported : Cmd → Bool) :
    ∃ l, ∀ c : Cmd, c.size ≤ n → unsupportedFeature { p with unsupported := l } c = unsupported c := by
  obtain ⟨all, hall⟩ : ∃ all : List (List Word), ∀ ws : List Word, ws.length ≤ n → ws ∈ all :=
    ⟨(List.finite_length_le Word n).toFinset.toList, fun ws h => by simpa using h⟩
  have mem (c : Cmd) (h : c.size ≤ n) : c ∈ all.filterMap cmdOfWords :=
    List.mem_filterMap.mpr ⟨c.words, hall _ h, rfl⟩
  refine ⟨((all.filterMap cmdOfWords).filter unsupported).map
    fun c => ⟨c.op, c.words.map fun w => (BitVec.allOnes 32, w)⟩, fun c hc => ?_⟩
  rw [Bool.eq_iff_iff]
  simp only [unsupportedFeature, List.any_eq_true, List.mem_map, List.mem_filter, Bool.and_eq_true,
    decide_eq_true_eq]
  constructor
  · rintro ⟨_, ⟨d, ⟨-, hd⟩, rfl⟩, -, hw⟩
    have e : d.words = c.words := wordsMatch_exact.mp hw
    have : d = c := by cases d; cases c; simp_all [Cmd.words]
    exact this ▸ hd
  · intro hu
    exact ⟨_, ⟨c, ⟨mem c hc, hu⟩, rfl⟩, rfl, wordsMatch_exact.mpr rfl⟩

/-! ### Client outputs (43_consumer_dispatch.md R275 to R277) -/

/-- The handler's output check is Forwardable. -/
theorem mayNotForward_eq_false {d : Cmd} : mayNotForward d = false ↔ Forwardable d := by
  simp only [mayNotForward, Bool.or_eq_false_iff, Bool.not_eq_false', Bool.or_eq_true, decide_eq_true_eq,
    decide_eq_false_iff_not, Decidable.not_not, and_assoc, ne_eq]

/-- An output of forwardable commands only is refused by no check of R275. -/
theorem find_mayNotForward {out : List Cmd} (h : ∀ d ∈ out, Forwardable d) : out.find? mayNotForward = none :=
  List.find?_eq_none.mpr fun d hd => by rw [mayNotForward_eq_false.mpr (h d hd)]; exact Bool.false_ne_true

/-- A client handler's good answer. -/
theorem clientHandler_good {s : State} {id : Fin 16} {c : Cmd} {h : Handler} {out : List Cmd} {st : List Word}
    (hd : s.ovlDesc[id].handler = .client h) (hv : handlerValue h c.op c s.ovlState[id] = .ok out st)
    (hg : ∀ d ∈ out, Forwardable d) (hl : out.length ≤ s.params.rzqCap) :
    clientHandler s id c = .ok (out, { s with ovlState := s.ovlState.set id st }) := by
  unfold clientHandler
  rw [hd]
  dsimp only
  rw [hv]
  dsimp only
  rw [find_mayNotForward hg]
  exact if_neg (Nat.not_lt.mpr hl)

/-- The mode check faults at a TEXTURE_RECTANGLE_FLIP that the commands before it leave in COPY mode. -/
theorem flipInCopy_append {hi : BitVec 24} {before after : List Cmd} {c : Cmd} (hb : flipInCopy hi before = none)
    (hc : c.op = 0x25) (hm : cycleType (omHiAfter hi before) = copyMode) :
    flipInCopy hi (before ++ c :: after) = some c := by
  induction before generalizing hi with
  | nil => exact if_pos ⟨hc, hm⟩
  | cons d ds ih =>
    simp only [flipInCopy, List.cons_append] at hb ⊢
    split at hb
    · cases hb
    · next hn => rw [if_neg hn]; exact ih hb hm

/-- The persisted mode word after some commands is that of the last SET_OTHER_MODES among them (R276). -/
theorem omHiAfter_eq_getLastD (hi : BitVec 24) (cs : List Cmd) :
    omHiAfter hi cs = ((cs.filter (fun d => d.op = 0x2F)).map Cmd.a24).getLastD hi := by
  induction cs generalizing hi with
  | nil => rfl
  | cons c cs ih =>
    by_cases h : c.op = 0x2F
    · rw [omHiAfter, ih, if_pos h, List.filter_cons_of_pos (by simpa using h), List.map_cons, List.getLastD_cons]
    · rw [omHiAfter, ih, if_neg h, List.filter_cons_of_neg (by simpa using h)]

/-- A full RZ_Q stalls a command that passes the mode check (R277). -/
theorem commitCommand_stalls {s t : State} {id : Fin 16} {n : Nat} {out : List Cmd}
    (hf : flipInCopy s.omHi out = none) (hq : s.params.rzqCap < s.rzQ.length + out.length) :
    commitCommand s id n out t = .ok s := by
  unfold commitCommand
  rw [hf]
  exact if_pos hq

/-! ### Valid parameters (00_scope.md R10) -/

/-- Valid parameters put both ring buffers inside memory, guard words included. -/
theorem ringFits_of_valid {p : Params} (h : p.valid = true) (b : RingBuf) : ringFits p b = true := by
  simp only [Params.valid, Bool.and_eq_true, decide_eq_true_eq] at h
  cases b <;> refine decide_eq_true ?_ <;> simp only [ringAddr, bufBase] <;> omega

/-- Valid parameters keep the two ring buffers apart: no word of one shares a byte with a word of the other. -/
theorem ringAddr_disjoint_of_valid {p : Params} (h : p.valid = true) (b : RingBuf) {i j : Nat} (hi : i ≤ p.cap)
    (hj : j ≤ p.cap) :
    ringAddr p b i + 4 ≤ ringAddr p b.other j ∨ ringAddr p b.other j + 4 ≤ ringAddr p b i := by
  simp only [Params.valid, Bool.and_eq_true, Bool.or_eq_true, decide_eq_true_eq] at h
  cases b <;> simp only [ringAddr, bufBase, RingBuf.other] <;> omega

/-- The sentinel of valid parameters leaves room for one more command of MAX_CMD words (10_state.md R37). -/
theorem sentinel_add_maxCmd_of_valid {p : Params} (h : p.valid = true) : p.sentinel + p.maxCmd = p.cap := by
  simp only [Params.valid, Bool.and_eq_true, decide_eq_true_eq] at h
  unfold Params.sentinel
  omega

end Sys2Proof.Machine
end

