-- ==== Sys2Proof/Laws/PerInstr.lean ====
section
/-! SUPPORT. The per-instruction family EncodedSize: the words the encoder writes for a command are as many as the term
occupies, and their first word holds its opcode (30_encoding.md R110, R112). -/
namespace Sys2Proof.Laws

open Sys2Proof

/-- The encoding has the instruction's length and its opcode in bits 31:24 of word 0. -/
def EncodedSize.Statement (i : Instr) : Prop := (encodeCmd i).size = i.length ∧ (encodeCmd i).op = i.opcode

theorem EncodedSize.terminator (ignored : BitVec 24) :
    EncodedSize.Statement (.terminator ignored) := ⟨rfl, field_append_high (n := 24) _ _⟩

theorem EncodedSize.noop (ignored : BitVec 24) :
    EncodedSize.Statement (.noop ignored) := ⟨rfl, field_append_high (n := 24) _ _⟩

theorem EncodedSize.jump (target : BitVec 24) :
    EncodedSize.Statement (.jump target) := ⟨rfl, field_append_high (n := 24) _ _⟩

theorem EncodedSize.setLookupAddress (ignored0 : BitVec 24) (index ignored1 : BitVec 4) (addr : BitVec 24) :
    EncodedSize.Statement (.setLookupAddress ignored0 index ignored1 addr) := ⟨rfl, field_append_high (n := 24) _ _⟩

theorem EncodedSize.setColorImageDyn (format : BitVec 5) (opaque0 : BitVec 9) (strideUnits : BitVec 10) (index ignored1 : BitVec 4) (offset : BitVec 24) :
    EncodedSize.Statement (.setColorImageDyn format opaque0 strideUnits index ignored1 offset) := ⟨rfl, (field_append_above (m := 22) (n := 10) _ _ 14 8).trans
    ((field_append_above (m := 13) (n := 9) _ _ 5 8).trans (field_append_high _ _))⟩

theorem EncodedSize.setZImageDyn (opaque0 : BitVec 24) (index ignored1 : BitVec 4) (offset : BitVec 24) :
    EncodedSize.Statement (.setZImageDyn opaque0 index ignored1 offset) := ⟨rfl, field_append_high (n := 24) _ _⟩

theorem EncodedSize.setTextureImageDyn (format : BitVec 5) (opaque0 : BitVec 9) (strideUnits : BitVec 10) (index ignored1 : BitVec 4) (offset : BitVec 24) :
    EncodedSize.Statement (.setTextureImageDyn format opaque0 strideUnits index ignored1 offset) := ⟨rfl, (field_append_above (m := 22) (n := 10) _ _ 14 8).trans
    ((field_append_above (m := 13) (n := 9) _ _ 5 8).trans (field_append_high _ _))⟩

theorem EncodedSize.modifyOtherModes (ignored0 : BitVec 23) (half : BitVec 1) (mask value : BitVec 32) :
    EncodedSize.Statement (.modifyOtherModes ignored0 half mask value) := ⟨rfl, (field_append_above (m := 31) (n := 1) _ _ 23 8).trans (field_append_high _ _)⟩

theorem EncodedSize.textureRectangle (xl yl : BitVec 12) (opaque1 : BitVec 5) (tile : BitVec 3) (xh yh : BitVec 12) (s t dsdx dtdy : BitVec 16) :
    EncodedSize.Statement (.textureRectangle xl yl opaque1 tile xh yh s t dsdx dtdy) := ⟨rfl, (field_append_above (m := 20) (n := 12) _ _ 12 8).trans (field_append_high _ _)⟩

theorem EncodedSize.textureRectangleFlip (xl yl : BitVec 12) (opaque1 : BitVec 5) (tile : BitVec 3) (xh yh : BitVec 12) (s t dsdx dtdy : BitVec 16) :
    EncodedSize.Statement (.textureRectangleFlip xl yl opaque1 tile xh yh s t dsdx dtdy) := ⟨rfl, (field_append_above (m := 20) (n := 12) _ _ 12 8).trans (field_append_high _ _)⟩

theorem EncodedSize.syncLoad (zero0 : BitVec 24) (zero1 : BitVec 32) :
    EncodedSize.Statement (.syncLoad zero0 zero1) := ⟨rfl, field_append_high (n := 24) _ _⟩

theorem EncodedSize.syncPipe (zero0 : BitVec 24) (zero1 : BitVec 32) :
    EncodedSize.Statement (.syncPipe zero0 zero1) := ⟨rfl, field_append_high (n := 24) _ _⟩

theorem EncodedSize.syncTile (zero0 : BitVec 24) (zero1 : BitVec 32) :
    EncodedSize.Statement (.syncTile zero0 zero1) := ⟨rfl, field_append_high (n := 24) _ _⟩

theorem EncodedSize.syncFull (zero0 : BitVec 24) (zero1 : BitVec 32) :
    EncodedSize.Statement (.syncFull zero0 zero1) := ⟨rfl, field_append_high (n := 24) _ _⟩

theorem EncodedSize.setKeyGb (opaque0 : BitVec 24) (opaque1 : BitVec 32) :
    EncodedSize.Statement (.setKeyGb opaque0 opaque1) := ⟨rfl, field_append_high (n := 24) _ _⟩

theorem EncodedSize.setKeyR (opaque0 : BitVec 24) (opaque1 : BitVec 32) :
    EncodedSize.Statement (.setKeyR opaque0 opaque1) := ⟨rfl, field_append_high (n := 24) _ _⟩

theorem EncodedSize.setConvert (opaque0 : BitVec 24) (opaque1 : BitVec 32) :
    EncodedSize.Statement (.setConvert opaque0 opaque1) := ⟨rfl, field_append_high (n := 24) _ _⟩

theorem EncodedSize.setScissor (x0 y0 : BitVec 12) (opaque1 : BitVec 8) (x1 y1 : BitVec 12) :
    EncodedSize.Statement (.setScissor x0 y0 opaque1 x1 y1) := ⟨rfl, (field_append_above (m := 20) (n := 12) _ _ 12 8).trans (field_append_high _ _)⟩

theorem EncodedSize.setPrimDepth (opaque0 : BitVec 24) (opaque1 : BitVec 32) :
    EncodedSize.Statement (.setPrimDepth opaque0 opaque1) := ⟨rfl, field_append_high (n := 24) _ _⟩

theorem EncodedSize.setOtherModes (omHi : BitVec 24) (omLo : BitVec 32) :
    EncodedSize.Statement (.setOtherModes omHi omLo) := ⟨rfl, field_append_high (n := 24) _ _⟩

theorem EncodedSize.loadTlut (opaque0 : BitVec 24) (opaque1 : BitVec 5) (tile : BitVec 3) (opaque2 : BitVec 24) :
    EncodedSize.Statement (.loadTlut opaque0 opaque1 tile opaque2) := ⟨rfl, field_append_high (n := 24) _ _⟩

theorem EncodedSize.setTileSize (opaque0 : BitVec 24) (opaque1 : BitVec 5) (tile : BitVec 3) (opaque2 : BitVec 24) :
    EncodedSize.Statement (.setTileSize opaque0 opaque1 tile opaque2) := ⟨rfl, field_append_high (n := 24) _ _⟩

theorem EncodedSize.loadBlock (opaque0 : BitVec 24) (opaque1 : BitVec 5) (tile : BitVec 3) (opaque2 : BitVec 24) :
    EncodedSize.Statement (.loadBlock opaque0 opaque1 tile opaque2) := ⟨rfl, field_append_high (n := 24) _ _⟩

theorem EncodedSize.loadTile (opaque0 : BitVec 24) (opaque1 : BitVec 5) (tile : BitVec 3) (opaque2 : BitVec 24) :
    EncodedSize.Statement (.loadTile opaque0 opaque1 tile opaque2) := ⟨rfl, field_append_high (n := 24) _ _⟩

theorem EncodedSize.setTile (opaque0 : BitVec 24) (opaque1 : BitVec 5) (tile : BitVec 3) (opaque2 : BitVec 24) :
    EncodedSize.Statement (.setTile opaque0 opaque1 tile opaque2) := ⟨rfl, field_append_high (n := 24) _ _⟩

theorem EncodedSize.fillRectangle (x1 y1 : BitVec 12) (opaque1 : BitVec 8) (x0 y0 : BitVec 12) :
    EncodedSize.Statement (.fillRectangle x1 y1 opaque1 x0 y0) := ⟨rfl, (field_append_above (m := 20) (n := 12) _ _ 12 8).trans (field_append_high _ _)⟩

theorem EncodedSize.setFillColor (opaque0 : BitVec 24) (color : BitVec 32) :
    EncodedSize.Statement (.setFillColor opaque0 color) := ⟨rfl, field_append_high (n := 24) _ _⟩

theorem EncodedSize.setFogColor (opaque0 : BitVec 24) (opaque1 : BitVec 32) :
    EncodedSize.Statement (.setFogColor opaque0 opaque1) := ⟨rfl, field_append_high (n := 24) _ _⟩

theorem EncodedSize.setBlendColor (opaque0 : BitVec 24) (opaque1 : BitVec 32) :
    EncodedSize.Statement (.setBlendColor opaque0 opaque1) := ⟨rfl, field_append_high (n := 24) _ _⟩

theorem EncodedSize.setPrimColor (opaque0 : BitVec 24) (opaque1 : BitVec 32) :
    EncodedSize.Statement (.setPrimColor opaque0 opaque1) := ⟨rfl, field_append_high (n := 24) _ _⟩

theorem EncodedSize.setEnvColor (opaque0 : BitVec 24) (opaque1 : BitVec 32) :
    EncodedSize.Statement (.setEnvColor opaque0 opaque1) := ⟨rfl, field_append_high (n := 24) _ _⟩

theorem EncodedSize.setCombine (opaque0 : BitVec 24) (opaque1 : BitVec 32) :
    EncodedSize.Statement (.setCombine opaque0 opaque1) := ⟨rfl, field_append_high (n := 24) _ _⟩

theorem EncodedSize.setTextureImage (format : BitVec 5) (opaque0 : BitVec 9) (strideUnits : BitVec 10) (zero1 : BitVec 8) (addr : BitVec 24) :
    EncodedSize.Statement (.setTextureImage format opaque0 strideUnits zero1 addr) := ⟨rfl, (field_append_above (m := 22) (n := 10) _ _ 14 8).trans
    ((field_append_above (m := 13) (n := 9) _ _ 5 8).trans (field_append_high _ _))⟩

theorem EncodedSize.setZImage (opaque0 : BitVec 24) (zero1 : BitVec 8) (addr : BitVec 24) :
    EncodedSize.Statement (.setZImage opaque0 zero1 addr) := ⟨rfl, field_append_high (n := 24) _ _⟩

theorem EncodedSize.setColorImage (format : BitVec 5) (opaque0 : BitVec 9) (strideUnits : BitVec 10) (zero1 : BitVec 8) (addr : BitVec 24) :
    EncodedSize.Statement (.setColorImage format opaque0 strideUnits zero1 addr) := ⟨rfl, (field_append_above (m := 22) (n := 10) _ _ 14 8).trans
    ((field_append_above (m := 13) (n := 9) _ _ 5 8).trans (field_append_high _ _))⟩

theorem EncodedSize.clientSel4 (fn : BitVec 4) (a24 : BitVec 24) (args : List Word) :
    EncodedSize.Statement (.clientSel4 fn a24 args) := ⟨rfl, field_append_high (n := 24) _ _⟩

theorem EncodedSize.clientSel5 (fn : BitVec 4) (a24 : BitVec 24) (args : List Word) :
    EncodedSize.Statement (.clientSel5 fn a24 args) := ⟨rfl, field_append_high (n := 24) _ _⟩

theorem EncodedSize.clientSel6 (fn : BitVec 4) (a24 : BitVec 24) (args : List Word) :
    EncodedSize.Statement (.clientSel6 fn a24 args) := ⟨rfl, field_append_high (n := 24) _ _⟩

theorem EncodedSize.clientSel7 (fn : BitVec 4) (a24 : BitVec 24) (args : List Word) :
    EncodedSize.Statement (.clientSel7 fn a24 args) := ⟨rfl, field_append_high (n := 24) _ _⟩

theorem EncodedSize.clientSel8 (fn : BitVec 4) (a24 : BitVec 24) (args : List Word) :
    EncodedSize.Statement (.clientSel8 fn a24 args) := ⟨rfl, field_append_high (n := 24) _ _⟩

theorem EncodedSize.clientSel9 (fn : BitVec 4) (a24 : BitVec 24) (args : List Word) :
    EncodedSize.Statement (.clientSel9 fn a24 args) := ⟨rfl, field_append_high (n := 24) _ _⟩

theorem EncodedSize.clientSel10 (fn : BitVec 4) (a24 : BitVec 24) (args : List Word) :
    EncodedSize.Statement (.clientSel10 fn a24 args) := ⟨rfl, field_append_high (n := 24) _ _⟩

theorem EncodedSize.clientSel11 (fn : BitVec 4) (a24 : BitVec 24) (args : List Word) :
    EncodedSize.Statement (.clientSel11 fn a24 args) := ⟨rfl, field_append_high (n := 24) _ _⟩

theorem EncodedSize.clientSel12 (fn : BitVec 4) (a24 : BitVec 24) (args : List Word) :
    EncodedSize.Statement (.clientSel12 fn a24 args) := ⟨rfl, field_append_high (n := 24) _ _⟩

theorem EncodedSize.clientSel13 (fn : BitVec 4) (a24 : BitVec 24) (args : List Word) :
    EncodedSize.Statement (.clientSel13 fn a24 args) := ⟨rfl, field_append_high (n := 24) _ _⟩

theorem EncodedSize.clientSel14 (fn : BitVec 4) (a24 : BitVec 24) (args : List Word) :
    EncodedSize.Statement (.clientSel14 fn a24 args) := ⟨rfl, field_append_high (n := 24) _ _⟩

theorem EncodedSize.clientSel15 (fn : BitVec 4) (a24 : BitVec 24) (args : List Word) :
    EncodedSize.Statement (.clientSel15 fn a24 args) := ⟨rfl, field_append_high (n := 24) _ _⟩

end Sys2Proof.Laws
end

