-- ==== Sys2Proof/Laws/Commands.lean ====
section
/-! SUPPORT. What the shared meanings of the built-in commands do when nothing stops them. -/
namespace Sys2Proof.Machine

open Sys2Proof

/-- The size of an opcode of selectors 0 to 3 (30_encoding.md R112). -/
theorem opSize_builtin {s : State} {op : Byte} (h : selOf op < 4) : opSize s op = some (builtinSize op) := by
  simp only [opSize, h, if_true]

/-- One command that is no SET_OTHER_MODES leaves the persisted mode alone (43_consumer_dispatch.md R276). -/
theorem modes_unchanged {c : Cmd} (h : c.op ≠ 0x2F) (hi : BitVec 24) (lo : Word) :
    omHiAfter hi [c] = hi ∧ omLoAfter lo [c] = lo := by
  simp only [omHiAfter, omLoAfter, h, if_false, and_self]

/-- One command that is no TEXTURE_RECTANGLE_FLIP passes the mode check in every mode (R276). -/
theorem flipInCopy_of_ne {c : Cmd} (h : c.op ≠ 0x25) (hi : BitVec 24) : flipInCopy hi [c] = none := by
  simp only [flipInCopy, h, false_and, if_false]

/-- A fixup that is ready forwards its output and commits (R260). -/
theorem fixup_ready {s t : State} {i : Instr} {out : List Cmd} {n : Nat} (h : CommandReady s i out.length)
    (hl : i.length = n + 1) (hs : builtinSize i.opcode = n + 1) (h4 : selOf i.opcode < 4)
    (he : (encodeCmd i).op = i.opcode) (hf : flipInCopy s.omHi out = none) :
    fixup s i out t = .next { forward t out with curOvl := 1, rpos := s.rpos + (n + 1) } := by
  obtain ⟨h1, h2, h3⟩ := h
  rw [hl] at h2
  have k1 : s.selMap[selOf (encodeCmd i).op] = some 1 := by simp only [he]; exact h1
  have k2 : opSize s (encodeCmd i).op = some (n + 1) := by simp only [he, opSize_builtin h4, hs]
  unfold fixup
  rw [dispatch_builtin k1 k2 h2 h3 hf]
  rfl

/-- A pass-through command that is ready is forwarded word for word (44_rasterizer_commands.md R300). -/
theorem passThrough_ready {s : State} {i : Instr} {n : Nat} (h : CommandReady s i 1) (hl : i.length = n + 1)
    (hs : builtinSize i.opcode = n + 1) (h4 : selOf i.opcode < 4) (he : (encodeCmd i).op = i.opcode)
    (hf : flipInCopy s.omHi [encodeCmd i] = none) (ho : i.opcode ≠ 0x2F) :
    passThrough s i = .next (forwarded s (n + 1) (encodeCmd i)) := by
  have hm := modes_unchanged (c := encodeCmd i) (by rw [he]; exact ho) s.omHi s.omLo
  refine (fixup_ready (out := [encodeCmd i]) (t := s) h hl hs h4 he hf).trans ?_
  simp only [forward, hm.1, hm.2, forwarded]

end Sys2Proof.Machine
end

