-- ==== Sys2Proof/Laws/Step.lean ====
section
/-! SUPPORT. What one step is, agent by agent. -/
namespace Sys2Proof.Machine

open Sys2Proof

/-- A turn of an agent of a block that is not halted. -/
theorem step_agent {s : State} {a : Agent} (h : AgentTurn s a) : step s = agentStep a (takeTurn s) := by
  unfold step machineStep; rw [h.1]

theorem step_producer {s : State} (h : AgentTurn s .producer) :
    step s = settle .producer (takeTurn s) (producerStep (takeTurn s)) := by
  rw [step_agent h]; unfold agentStep; rw [takeTurn_fault, h.2]

theorem step_consumer {s : State} (h : AgentTurn s .consumer) : step s = consumerStep (takeTurn s) := by
  rw [step_agent h]; unfold agentStep; rw [takeTurn_fault, h.2]

theorem step_rasterizer {s : State} (h : AgentTurn s .rasterizer) :
    step s = settle .rasterizer (takeTurn s) (rasterizerStep (takeTurn s)) := by
  rw [step_agent h]; unfold agentStep; rw [takeTurn_fault, h.2]

theorem step_fenceIrq {s : State} (h : AgentTurn s .fenceIrq) :
    step s = settle .fenceIrq (takeTurn s) (fenceStep (takeTurn s)) := by
  rw [step_agent h]; unfold agentStep; rw [takeTurn_fault, h.2]

/-- A turn of an agent of a halted block has no step (60_exceptions.md R401). -/
theorem step_halted {s : State} {a : Agent} {r : FaultRecord} (h : nextTurn s = .agent a) (hf : s.fault = some r) :
    step s = .fault (.halted r) := by
  unfold step machineStep; rw [h]; unfold agentStep; rw [takeTurn_fault, hf]

theorem step_powerOn {s : State} (h : nextTurn s = .powerOn) : step s = .next (powerOnReset (takeTurn s)) := by
  unfold step machineStep; rw [h]

/-- The issue step of an operation. -/
theorem step_issues {s : State} {op : PortOp} {ops : List PortOp} (h : Issues s op ops) :
    step s = settle .producer (takeTurn s) (issue (issued s ops) op) := by
  obtain ⟨ht, hp, ho⟩ := h
  rw [step_producer ht]
  unfold producerStep
  split
  · next h => simp [hp] at h
  · split
    · next h => simp [ho] at h
    · next h =>
      simp only [takeTurn_hostOps, ho, List.cons.injEq] at h
      obtain ⟨rfl, rfl⟩ := h
      rfl

/-- A micro-step. -/
theorem step_runs {s : State} {m : MicroStep} {rest : List MicroStep} (h : Runs s m rest) :
    step s = settle .producer (takeTurn s) (microStep (takeTurn s) m rest) := by
  obtain ⟨ht, hp⟩ := h
  rw [step_producer ht]
  unfold producerStep
  split
  · next h =>
    simp only [takeTurn_pq, hp, List.cons.injEq] at h
    obtain ⟨rfl, rfl⟩ := h
    rfl
  · next h => simp [hp] at h

/-- The lifecycle check admits what the table of 40_ring_buffer.md R154 admits, and refuses with the fault of its
cell. -/
theorem lifecycleFault_eq (op : PortOp) (lc : Lifecycle) :
    lifecycleFault op lc = if admits lc op = true then none else some (refusal lc op) := by
  cases op <;> cases lc <;> rfl

/-- A step that a fault ends leaves the state before it plus the record. -/
theorem settle_takeTurn_raise {s : State} {a : Agent} (h : s.fault = none) (code : FaultCode) (info : List Word) :
    settle a (takeTurn s) (.error (.raise code info)) = .next (faulted s a code info) := by
  rw [settle_raise, faulted_eq_raise h]

/-! ### The schedule (60_exceptions.md R434) -/

/-- Every agent has a turn in a round. -/
theorem mem_fullRound (free : List Agent) (a : Agent) : a ∈ fullRound free := by
  have h : a ∈ agents := by cases a <;> decide
  by_cases hf : a ∈ free
  · exact List.mem_append_left _ hf
  · exact List.mem_append_right _ (List.mem_filter.mpr ⟨h, by simpa using hf⟩)

/-- The first `r` rounds have at least `r` turns. -/
theorem le_length_rounds (r : Nat) : r ≤ (rounds r).length := by
  induction r with
  | zero => exact Nat.zero_le _
  | succ r ih =>
    have h := List.length_pos_of_mem (mem_fullRound (Config.round r) .producer)
    simp only [rounds, List.length_append]
    omega

/-- More rounds only append turns. -/
theorem rounds_prefix {r r' : Nat} (h : r ≤ r') : rounds r <+: rounds r' := by
  induction h with
  | refl => exact List.prefix_refl _
  | step _ ih => exact ih.trans (List.prefix_append _ _)

/-- The schedule reads the turns of the rounds, however many rounds are laid out. -/
theorem schedule_eq {r n : Nat} (h : n < (rounds r).length) : schedule n = (rounds r)[n] := by
  have hn : n < (rounds (n + 1)).length := le_length_rounds (n + 1)
  have h1 : schedule n = (rounds (n + 1))[n] := List.getD_eq_getElem _ _ hn
  rw [h1]
  rcases Nat.le_total (n + 1) r with hr | hr
  · exact (rounds_prefix hr).getElem hn
  · exact ((rounds_prefix hr).getElem h).symm

/-- Weak fairness of the schedule: from every tick on, every agent has a turn. -/
theorem schedule_fair (a : Agent) (k : Nat) : ∃ n, k ≤ n ∧ schedule n = a := by
  obtain ⟨i, hi, ha⟩ := List.getElem_of_mem (mem_fullRound (Config.round k) a)
  have hk := le_length_rounds k
  have hlt : (rounds k).length + i < (rounds (k + 1)).length := by
    simp only [rounds, List.length_append]; omega
  refine ⟨(rounds k).length + i, by omega, ?_⟩
  rw [schedule_eq hlt]
  simp only [rounds]
  rw [List.getElem_append_right (by omega)]
  simpa using ha

/-! ### Runs (70_reset_and_hazards.md R479, R480) -/

/-- A run of `m + n` steps is one of `m` steps and one of `n` from where it leads. -/
theorem runFor_add {m n : Nat} {s t : State} (h : runFor m s = .next t) : runFor (m + n) s = runFor n t := by
  induction m generalizing s with
  | zero => cases h; rw [Nat.zero_add]
  | succ m ih =>
    rw [Nat.succ_add]
    simp only [runFor] at h ⊢
    split at h
    · next hs => exact ih h
    · next hs => rw [h] at hs; exact absurd rfl (hs t)

/-- A halted block is quiescent exactly when no micro-step is queued (60_exceptions.md R401). -/
theorem quiescent_of_fault {s : State} (h : s.fault ≠ none) : quiescent s = decide (s.pq = []) := by
  simp [quiescent, agents, enabled, h]

/-- A block with no fault is quiescent exactly when nothing is queued anywhere and the consumer is idle. -/
theorem quiescent_iff {s : State} (h : s.fault = none) :
    quiescent s = true ↔ s.pq = [] ∧ s.cstate = .idle ∧ s.rzQ = [] ∧ s.irqPending = 0 := by
  have hc : ¬s.cstate = .run ↔ s.cstate = .idle := by cases s.cstate <;> simp
  by_cases hp : s.pq = [] <;> simp [quiescent, agents, enabled, h, hp, hc, Nat.pos_iff_ne_zero]

/-- A run that ends has as its result the logs, the fault and the state it ended in. -/
theorem runResult_eq_some {s : State} {r : RunResult} :
    runResult s = some r ↔ runEnded s = true ∧ r = ⟨s.rzLog, s.cbLog, s.fault, s⟩ := by
  unfold runResult
  split
  · next h => rw [Option.some.injEq, eq_comm]; exact ⟨fun e => ⟨h, e⟩, And.right⟩
  · next h => exact ⟨nofun, fun e => absurd e.1 h⟩

end Sys2Proof.Machine
end

