-- ==== Sys2Proof/Tests/Slice0.lean ====
section
/-! SUPPORT. The model's own tests: ill-formed terms refused, one word of every command decoded, vectors of
95_test_vectors.md on single steps, and for every statement a state and operands that meet its hypotheses. -/
namespace Sys2Proof.Tests

open Sys2Proof Sys2Proof.Machine

set_option Elab.async false

/-! ### Well-formedness -/

theorem test_wellFormed_accepts : (Instr.syncPipe 0 0).wellFormed tableSize 4 = true := by decide

/-- A client command with more words than its function has. -/
theorem test_wellFormed_refuses_length : (Instr.clientSel4 0 0 [1]).wellFormed tableSize 4 = false := by decide

/-- A command of an unbound selector. -/
theorem test_wellFormed_refuses_unbound : (Instr.clientSel4 0 0 []).wellFormed (fun _ => none) 4 = false := by decide

/-- A command of a function of size 0. -/
theorem test_wellFormed_refuses_invalid : (Instr.clientSel4 0 0 []).wellFormed (fun _ => some 0) 4 = false := by decide

/-- A command longer than MAX_CMD. -/
theorem test_wellFormed_refuses_maxCmd :
    (Instr.clientSel4 0 0 [1, 2, 3, 4]).wellFormed (fun _ => some 5) 4 = false := by decide

/-! ### Decoding: one word of every command, its fields laid out by hand from 30_encoding.md R117 -/

theorem test_decode_terminator :
    decode tableSize [0x00, 0x52, 0xE6, 0xB5] = .ok (.terminator 0x52E6B5, []) := by decide

theorem test_decode_noop :
    decode tableSize [0x01, 0xF2, 0xA7, 0x4E] = .ok (.noop 0xF2A74E, []) := by decide

theorem test_decode_jump :
    decode tableSize [0x02, 0x26, 0x9E, 0x0E] = .ok (.jump 0x269E0E, []) := by decide

theorem test_decode_setLookupAddress :
    decode tableSize [0x10, 0x65, 0x13, 0x28, 0xB1, 0x12, 0x8B, 0x30] = .ok (.setLookupAddress 0x651328 0xB 0x1 0x128B30, []) := by decide

theorem test_decode_setColorImageDyn :
    decode tableSize [0x11, 0xDC, 0x4C, 0x61, 0x6A, 0x0E, 0xD9, 0x05] = .ok (.setColorImageDyn 0x1B 0x113 0x61 0x6 0xA 0xED905, []) := by decide

theorem test_decode_setZImageDyn :
    decode tableSize [0x12, 0xE8, 0xE2, 0x5E, 0x94, 0x09, 0x99, 0x51] = .ok (.setZImageDyn 0xE8E25E 0x9 0x4 0x99951, []) := by decide

theorem test_decode_setTextureImageDyn :
    decode tableSize [0x13, 0x1B, 0x7D, 0xAD, 0x24, 0x17, 0x38, 0xF8] = .ok (.setTextureImageDyn 0x3 0xDF 0x1AD 0x2 0x4 0x1738F8, []) := by decide

theorem test_decode_modifyOtherModes :
    decode tableSize [0x14, 0x8D, 0x11, 0x71, 0x6C, 0xAD, 0x4A, 0x27, 0x0F, 0x21, 0xDD, 0xB7] = .ok (.modifyOtherModes 0x4688B8 0x1 0x6CAD4A27 0xF21DDB7, []) := by decide

theorem test_decode_textureRectangle :
    decode tableSize [0x24, 0xD3, 0xB9, 0x0D, 0x22, 0xA1, 0x8A, 0x0A, 0x95, 0x40, 0xF2, 0x9E, 0x0F, 0xD7, 0x93, 0xBE] = .ok (.textureRectangle 0xD3B 0x90D 0x4 0x2 0xA18 0xA0A 0x9540 0xF29E 0xFD7 0x93BE, []) := by decide

theorem test_decode_textureRectangleFlip :
    decode tableSize [0x25, 0x95, 0xF6, 0x59, 0x12, 0x0B, 0xF8, 0xE9, 0xDB, 0xC5, 0x22, 0x18, 0x4A, 0x24, 0x6B, 0x4D] = .ok (.textureRectangleFlip 0x95F 0x659 0x2 0x2 0xBF 0x8E9 0xDBC5 0x2218 0x4A24 0x6B4D, []) := by decide

theorem test_decode_setScissor :
    decode tableSize [0x2D, 0x24, 0xF8, 0xA7, 0x1F, 0x92, 0x34, 0xF0] = .ok (.setScissor 0x24F 0x8A7 0x1F 0x923 0x4F0, []) := by decide

theorem test_decode_fillRectangle :
    decode tableSize [0x36, 0x8F, 0x7D, 0x0F, 0xAF, 0x2E, 0x51, 0xA7] = .ok (.fillRectangle 0x8F7 0xD0F 0xAF 0x2E5 0x1A7, []) := by decide

theorem test_decode_loadTlut :
    decode tableSize [0x30, 0x94, 0xE3, 0xC0, 0x9E, 0x30, 0x18, 0x51] = .ok (.loadTlut 0x94E3C0 0x13 0x6 0x301851, []) := by decide

theorem test_decode_setTileSize :
    decode tableSize [0x32, 0x5F, 0x55, 0x73, 0x25, 0xB6, 0x4C, 0xE5] = .ok (.setTileSize 0x5F5573 0x4 0x5 0xB64CE5, []) := by decide

theorem test_decode_loadBlock :
    decode tableSize [0x33, 0x10, 0x12, 0xF1, 0x99, 0x9E, 0x77, 0x6A] = .ok (.loadBlock 0x1012F1 0x13 0x1 0x9E776A, []) := by decide

theorem test_decode_loadTile :
    decode tableSize [0x34, 0x34, 0xB9, 0xB6, 0x86, 0x88, 0x1E, 0xD2] = .ok (.loadTile 0x34B9B6 0x10 0x6 0x881ED2, []) := by decide

theorem test_decode_setTile :
    decode tableSize [0x35, 0x6D, 0x76, 0xB1, 0xCB, 0x77, 0x31, 0xB0] = .ok (.setTile 0x6D76B1 0x19 0x3 0x7731B0, []) := by decide

theorem test_decode_setTextureImage :
    decode tableSize [0x3D, 0x9F, 0x65, 0xD1, 0x5D, 0x4C, 0xBD, 0x88] = .ok (.setTextureImage 0x13 0x1D9 0x1D1 0x5D 0x4CBD88, []) := by decide

theorem test_decode_setColorImage :
    decode tableSize [0x3F, 0x46, 0x5C, 0xB9, 0xB3, 0xC7, 0xA2, 0xEB] = .ok (.setColorImage 0x8 0x197 0xB9 0xB3 0xC7A2EB, []) := by decide

theorem test_decode_setZImage :
    decode tableSize [0x3E, 0x3E, 0x7D, 0x1C, 0x15, 0x93, 0x0D, 0x6F] = .ok (.setZImage 0x3E7D1C 0x15 0x930D6F, []) := by decide

theorem test_decode_syncLoad :
    decode tableSize [0x26, 0x4C, 0xDD, 0x21, 0x86, 0x73, 0x47, 0x22] = .ok (.syncLoad 0x4CDD21 0x86734722, []) := by decide

theorem test_decode_syncPipe :
    decode tableSize [0x27, 0x7E, 0xBF, 0xF3, 0xE0, 0x09, 0x02, 0xC8] = .ok (.syncPipe 0x7EBFF3 0xE00902C8, []) := by decide

theorem test_decode_syncTile :
    decode tableSize [0x28, 0x57, 0xEE, 0x06, 0xBA, 0xBC, 0xED, 0x21] = .ok (.syncTile 0x57EE06 0xBABCED21, []) := by decide

theorem test_decode_syncFull :
    decode tableSize [0x29, 0x72, 0xE6, 0xCD, 0x49, 0xB6, 0x4A, 0x09] = .ok (.syncFull 0x72E6CD 0x49B64A09, []) := by decide

theorem test_decode_setKeyGb :
    decode tableSize [0x2A, 0x9B, 0xE4, 0xBD, 0xFA, 0xEC, 0xBD, 0x39] = .ok (.setKeyGb 0x9BE4BD 0xFAECBD39, []) := by decide

theorem test_decode_setKeyR :
    decode tableSize [0x2B, 0x12, 0xBD, 0x4B, 0x1E, 0x39, 0x8F, 0x11] = .ok (.setKeyR 0x12BD4B 0x1E398F11, []) := by decide

theorem test_decode_setConvert :
    decode tableSize [0x2C, 0x83, 0x0E, 0x08, 0x6B, 0x0A, 0x18, 0xE9] = .ok (.setConvert 0x830E08 0x6B0A18E9, []) := by decide

theorem test_decode_setPrimDepth :
    decode tableSize [0x2E, 0x2A, 0x3A, 0xF5, 0xC1, 0xD3, 0xFD, 0x00] = .ok (.setPrimDepth 0x2A3AF5 0xC1D3FD00, []) := by decide

theorem test_decode_setOtherModes :
    decode tableSize [0x2F, 0x57, 0x90, 0xF9, 0x26, 0xE8, 0x75, 0x56] = .ok (.setOtherModes 0x5790F9 0x26E87556, []) := by decide

theorem test_decode_setFillColor :
    decode tableSize [0x37, 0xEE, 0xEA, 0xCC, 0x7D, 0x2C, 0xAF, 0x83] = .ok (.setFillColor 0xEEEACC 0x7D2CAF83, []) := by decide

theorem test_decode_setFogColor :
    decode tableSize [0x38, 0x6B, 0xF4, 0x6D, 0x0A, 0x09, 0x7C, 0x98] = .ok (.setFogColor 0x6BF46D 0xA097C98, []) := by decide

theorem test_decode_setBlendColor :
    decode tableSize [0x39, 0xF6, 0x46, 0xE2, 0xAB, 0x10, 0x31, 0xD1] = .ok (.setBlendColor 0xF646E2 0xAB1031D1, []) := by decide

theorem test_decode_setPrimColor :
    decode tableSize [0x3A, 0x13, 0xDE, 0xF0, 0xC3, 0xBA, 0xEA, 0x9F] = .ok (.setPrimColor 0x13DEF0 0xC3BAEA9F, []) := by decide

theorem test_decode_setEnvColor :
    decode tableSize [0x3B, 0x8E, 0xDE, 0x0E, 0x92, 0xB1, 0xD3, 0xF3] = .ok (.setEnvColor 0x8EDE0E 0x92B1D3F3, []) := by decide

theorem test_decode_setCombine :
    decode tableSize [0x3C, 0xCA, 0x02, 0x14, 0xE0, 0x1F, 0x50, 0x58] = .ok (.setCombine 0xCA0214 0xE01F5058, []) := by decide

theorem test_decode_clientSel4 :
    decode (fun _ => some 2) [0x4A, 0xAE, 0x24, 0x84, 0xB1, 0xFE, 0xE0, 0x8F] = .ok (.clientSel4 0xA 0xAE2484 [0xB1FEE08F], []) := by decide

theorem test_decode_clientSel5 :
    decode (fun _ => some 2) [0x5F, 0xE9, 0x93, 0xBE, 0x45, 0x1A, 0xBD, 0x81] = .ok (.clientSel5 0xF 0xE993BE [0x451ABD81], []) := by decide

theorem test_decode_clientSel6 :
    decode (fun _ => some 2) [0x62, 0x1F, 0x10, 0x10, 0x72, 0x15, 0x83, 0x70] = .ok (.clientSel6 0x2 0x1F1010 [0x72158370], []) := by decide

theorem test_decode_clientSel7 :
    decode (fun _ => some 2) [0x7C, 0xB1, 0xAA, 0xAC, 0x76, 0x31, 0xA9, 0x92] = .ok (.clientSel7 0xC 0xB1AAAC [0x7631A992], []) := by decide

theorem test_decode_clientSel8 :
    decode (fun _ => some 2) [0x85, 0x3B, 0xF3, 0xFA, 0x7E, 0x62, 0xAA, 0x0A] = .ok (.clientSel8 0x5 0x3BF3FA [0x7E62AA0A], []) := by decide

theorem test_decode_clientSel9 :
    decode (fun _ => some 2) [0x96, 0x93, 0x2A, 0x47, 0x3F, 0x63, 0xAF, 0x83] = .ok (.clientSel9 0x6 0x932A47 [0x3F63AF83], []) := by decide

theorem test_decode_clientSel10 :
    decode (fun _ => some 2) [0xAC, 0xFE, 0x36, 0x20, 0x14, 0xA0, 0xF9, 0xE7] = .ok (.clientSel10 0xC 0xFE3620 [0x14A0F9E7], []) := by decide

theorem test_decode_clientSel11 :
    decode (fun _ => some 2) [0xBE, 0xCD, 0xA4, 0x50, 0x8C, 0xA8, 0x18, 0x11] = .ok (.clientSel11 0xE 0xCDA450 [0x8CA81811], []) := by decide

theorem test_decode_clientSel12 :
    decode (fun _ => some 2) [0xC4, 0xDC, 0x6D, 0x55, 0xE2, 0x5A, 0x76, 0x05] = .ok (.clientSel12 0x4 0xDC6D55 [0xE25A7605], []) := by decide

theorem test_decode_clientSel13 :
    decode (fun _ => some 2) [0xD7, 0x4D, 0x45, 0x81, 0x15, 0x3E, 0x7C, 0x2A] = .ok (.clientSel13 0x7 0x4D4581 [0x153E7C2A], []) := by decide

theorem test_decode_clientSel14 :
    decode (fun _ => some 2) [0xE4, 0x76, 0xC3, 0x0C, 0xA8, 0x94, 0x8C, 0x89] = .ok (.clientSel14 0x4 0x76C30C [0xA8948C89], []) := by decide

theorem test_decode_clientSel15 :
    decode (fun _ => some 2) [0xF0, 0xF8, 0x4D, 0x08, 0x2E, 0xAE, 0x05, 0xCF] = .ok (.clientSel15 0x0 0xF84D08 [0x2EAE05CF], []) := by decide

theorem test_decode_invalid :
    decode tableSize [0x31, 0, 0, 0, 0, 0, 0, 0] = .error (.invalidOpcode 0x31) := by decide

theorem test_decode_unbound :
    decode (fun _ => none) [0x50, 0, 0, 0] = .error (.unboundSelector 0x50) := by decide

theorem test_decode_truncated : decode tableSize [0x2D, 0x02, 0x80, 0x28, 0x00] = .error .truncated := by decide

/-! ### States for the tests, under the parameters of 00_scope.md R10 -/

/-- Both ring buffers full of terminators. -/
def clearedRing : Memory :=
  memWriteWords (memWriteWords [] 0x1000 (List.replicate 9 0)) 0x2000 (List.replicate 9 0)

/-- The state after `init` and `start`. -/
def started : State := { initState State.reset clearedRing with lc := .started }

/-- The next turn is the agent's. -/
def turn (a : Agent) (s : State) : State := { s with turns := [.agent a] }

/-- The host's next operation, PRODUCER's turn next. -/
def host (op : PortOp) (s : State) : State := { turn .producer s with hostOps := [op] }

/-- The words at the consumer's position, the consumer running and its turn next. -/
def consumerAt (p : Nat) (ws : List Word) (s : State) : State :=
  { turn .consumer s with cstate := .run, rpos := p, mem := memWriteWords s.mem (ringAddr s.params s.cbuf p) ws }

/-- What the next state shows, if there is one. -/
def shows (o : Host.Outcome State Fault Refusal) (p : State → Bool) : Bool :=
  match o with
  | .next t => p t
  | _ => false

/-- A one-function overlay that forwards one SYNC_PIPE (the example of 43_consumer_dispatch.md R275). -/
def pipeHandler : Handler := ⟨0, 1, [⟨0x40, ⟨0x40000000, []⟩, [0], .ok [⟨0x27000000, [0]⟩] [1]⟩]⟩

/-- Its descriptor. -/
def pipeDesc : DescriptorArg :=
  ⟨0x010000, 0x011000, 0x012000, 0x100, 0x40, (Vector.replicate 16 0).set 0 1, pipeHandler, [0]⟩

/-- Overlay 2 registered with a handler, every function one word, and bound to every selector from 4 on. -/
def clients (h : Handler) : State :=
  { started with
    selMap := Vector.ofFn fun k => if k = 0 then some 0 else if k < 4 then some 1 else some 2
    ovlValid := started.ovlValid.set 2 true
    ovlDesc := started.ovlDesc.set 2 { noDescriptor with cmdSize := .client (Vector.replicate 16 1), handler := .client h }
    ovlState := started.ovlState.set 2 [0] }

/-- A handler with one known value for the one-word command of an opcode. -/
def answering (op : Byte) (r : HandlerResult) : Handler := ⟨0, BitVec.allOnes 16, [⟨op, ⟨op ++ 0#24, []⟩, [0], r⟩]⟩

/-- A fence just emitted: SYNC_FULL in the ring, the consumer awake. -/
def busy : State :=
  { started with
    mem := memWriteWords clearedRing 0x1000 [0x29000000]
    cursor := 2
    sig := true
    cstate := .run
    fenceQ := [.noCb]
    fenceIssued := 1 }

/-- Just after a switch: a SYNC_PIPE and the JUMP unread in buffer 0, the producer in buffer 1. -/
def switched : State :=
  { started with
    mem := memWriteWords clearedRing 0x1010 [0x27000000, 0, 0x02002000]
    active := .b1
    rpos := 4
    sig := true
    cstate := .run }

/-! ### Vectors of 95_test_vectors.md, one step each -/

/-- The rows the host asks about run as the first command after reset. -/
def runsRow (w : Nat) : Bool :=
  let s := State.reset.withFetchWord 32 w
  match decodeTableWord 32 w with
  | none => false
  | some i => shows (step s) fun t => shows (exec i (takeTurn s)) fun u => decide (t = u) && decide (t ≠ takeTurn s)

theorem test_first_commands : ([0x00000000, 0x01000000, 0x02002000, 0x10000000, 0x11000000, 0x14000000, 0x24000000,
    0x29000000, 0x2F000000, 0x3F000000, 0x40000000, 0xF1234567] : List Nat).all runsRow = true := by decide +kernel

/-- CI1: a terminator with the signal set. -/
theorem test_terminator_signal :
    shows (step (consumerAt 2 [0] { started with sig := true }))
      (fun t => !t.sig && decide (t.cstate = .run) && decide (t.rpos = 2)) = true := by decide +kernel

/-- R264's example. -/
theorem test_jump :
    shows (step (consumerAt 6 [0x02002000] started)) (fun t => decide (t.cbuf = .b1 ∧ t.rpos = 0)) = true := by
  decide +kernel

/-- R370's example. -/
theorem test_setLookupAddress :
    shows (step (consumerAt 0 [0x10000000, 0x30100000] started))
      (fun t => decide (t.lookup[3] = 0x100000 ∧ t.rzQ = [] ∧ t.rpos = 2)) = true := by decide +kernel

/-- R372's example. -/
theorem test_setColorImageDyn :
    shows (step (consumerAt 0 [0x11100140, 0x30000800] { started with lookup := started.lookup.set 3 0x100000 }))
      (fun t => decide (t.rzQ = [⟨0x3F100140, [0x00100800]⟩])) = true := by decide +kernel

/-- R374's corner case: the sum wraps. -/
theorem test_setTextureImageDyn_wraps :
    shows (step (consumerAt 0 [0x13000000, 0x50000010] { started with lookup := started.lookup.set 5 0xFFFFF8 }))
      (fun t => decide (t.rzQ = [⟨0x3D000000, [0x00000008]⟩])) = true := by decide +kernel

/-- R376's second example. -/
theorem test_modifyOtherModes_low :
    shows (step (consumerAt 0 [0x14000001, 0x0000FFFF, 0x12345678] { started with omLo := 0xFFFF0000 }))
      (fun t => decide (t.omLo = 0xFFFF5678 ∧ t.rzQ = [⟨0x2F000000, [0xFFFF5678]⟩] ∧ t.rpos = 3)) = true := by
  decide +kernel

/-- R276: FLIP in COPY mode. -/
theorem test_flip_in_copy :
    shows (step (consumerAt 0 [0x25050050, 0x01000000, 0, 0x04000400] { started with omHi := 0x200000 }))
      (fun t => decide (t.fault = some ⟨.contract, .flipInCopy, .consumer, [0x25050050]⟩ ∧ t.rpos = 0)) = true := by
  decide +kernel

/-- CI9: a command that reaches the guard word. -/
theorem test_ring_overrun :
    shows (step (consumerAt 7 [0x2D000000] started))
      (fun t => decide (t.fault = some ⟨.contract, .ringOverrun, .consumer, [0x2D, 0, 7]⟩)) = true := by decide +kernel

/-- R275's example. -/
theorem test_client_forwards :
    shows (step (consumerAt 0 [0x40000000] (clients pipeHandler)))
      (fun t => decide (t.rzQ = [⟨0x27000000, [0]⟩] ∧ t.ovlState[2] = [1] ∧ t.curOvl = 2 ∧ t.rpos = 1)) = true := by
  decide +kernel

/-- DP9: the mode check sees the mode set earlier in the same output, on a full RZ_Q too. -/
theorem test_client_flip_in_copy :
    shows (step (consumerAt 0 [0x40000000] { clients (answering 0x40 (.ok [⟨0x2F200000, [0]⟩, ⟨0x25000000, [0, 0, 0]⟩] [7]))
        with rzQ := List.replicate 8 syncPipeCmd }))
      (fun t => decide (t.fault = some ⟨.contract, .flipInCopy, .consumer, [0x25000000]⟩ ∧ t.omHi = 0
        ∧ t.rzQ.length = 8 ∧ t.ovlState[2] = [0])) = true := by decide +kernel

/-- R277: an output that does not fit RZ_Q stalls, and no part of it joins. -/
theorem test_client_stalls :
    (let s := consumerAt 0 [0x40000000] { clients (answering 0x40 (.ok [syncPipeCmd, syncPipeCmd] [7]))
        with rzQ := List.replicate 7 syncPipeCmd }
     shows (step s) (fun t => decide (t = takeTurn s))) = true := by decide +kernel

/-- The vector of UNSUPPORTED_FEATURE: SET_PRIM_DEPTH, whatever its words, is unimplemented. -/
theorem test_unsupported_feature :
    (let p := { started.params with unsupported := [⟨0x2E, [(0, 0), (0, 0)]⟩] }
     shows (step (host (.write .auto 0x2E 0 [0] 0 0) { started with params := p }))
      (fun t => decide (t.fault = some ⟨.unsupported, .unsupportedFeature, .producer, [0x2E]⟩))) = true := by
  decide +kernel

/-- R10: UNSUPPORTED can hold of a command and not of a longer one that begins with its words. -/
theorem test_unsupported_is_no_prefix :
    (let p := { started.params with unsupported := [⟨0x40, [(0xFFFFFFFF, 0x40000000)]⟩] }
     unsupportedFeature p ⟨0x40000000, []⟩ = true ∧ unsupportedFeature p ⟨0x40000000, [0]⟩ = false) := by decide

/-- WR2: a scissor while the pipeline is in use is preceded by SYNC_PIPE (the source's own words of R240). -/
theorem test_scissor_syncs :
    shows (step (host (.scissor 10 10 30 30) { started with autosync := 0x400 }))
      (fun t => decide (t.pq = [.emit ⟨0x27000000, [0]⟩ 0x400 0, .emit ⟨0x2D028028, [0x00078078]⟩ 0 0]
        ∧ t.autosync = 0)) = true := by decide +kernel

/-- R160's example. -/
theorem test_emit_switches :
    shows (step { turn .producer { started with cursor := 4 } with pq := [.emit ⟨0x27000000, [0]⟩ 0 0] })
      (fun t => decide (t.cursor = 6 ∧ t.switchPending = true ∧ t.pq = [.switch])) = true := by decide +kernel

/-- R165's example. -/
theorem test_switch_jump_word :
    shows (step { turn .producer { started with cursor := 6, switchPending := true } with pq := [.switch] })
      (fun t => decide (memReadWord t.mem 0x1018 = some 0x02002000 ∧ t.active = .b1 ∧ t.cursor = 0)) = true := by
  decide +kernel

/-- R190's example. -/
theorem test_register_auto :
    shows (step (host (.register pipeDesc none) { started with lc := .ready }))
      (fun t => decide (t.result = some 2 ∧ t.ovlValid[2] = true ∧ t.ovlState[2] = [0])) = true := by decide +kernel

/-- R236's example. -/
theorem test_config :
    shows (step (host (.config 0 1) started)) (fun t => decide (t.result = some 7 ∧ t.autosyncCfg = 0b110)) = true := by
  decide +kernel

/-- Program P4: RZ_HAZARD. -/
theorem test_rz_hazard :
    shows (step (turn .rasterizer { started with rzInuse := 0x400, rzQ := [⟨0x2D028028, [0x00078078]⟩] }))
      (fun t => decide (t.fault = some ⟨.undefined, .rzHazard, .rasterizer, [0x2D028028, 0x400]⟩
        ∧ t.rzQ.length = 1)) = true := by decide +kernel

/-- FI1: a fence completes and its callback is invoked. -/
theorem test_fence_callback :
    shows (step (turn .fenceIrq { started with irqPending := 1, fenceQ := [.call ⟨9, 7⟩] }))
      (fun t => decide (t.cbLog = [⟨9, 7⟩] ∧ t.fenceDone = 1 ∧ t.irqPending = 0)) = true := by decide +kernel

/-! ### For every statement, states and operands that meet its hypotheses, clause by clause -/

theorem witness_DecodeOfEncode :
    (Instr.noop 0xFFFFFF).wellFormed tableSize 4 = true
      ∧ (Instr.textureRectangle 0xFFF 0 31 7 0 0xFFF 0xFFFF 0 0 0xFFFF).wellFormed tableSize 4 = true
      ∧ (Instr.clientSel15 15 0xFFFFFF [1, 2, 3]).wellFormed (fun _ => some 4) 4 = true := by decide

theorem witness_EncodeOfDecode :
    decode tableSize [0x2D, 0x02, 0x80, 0x28, 0x00, 0x07, 0x80, 0x78, 0xFF]
      = .ok (.setScissor 0x028 0x028 0 0x078 0x078, [0xFF]) := by decide

theorem witness_StepRunsDecodedInstruction :
    (let s := consumerAt 6 [0x2D028028, 0x00078078] started
     let i : Instr := .setScissor 0x028 0x028 0 0x078 0x078
     AgentTurn s .consumer ∧ s.cstate = .run ∧ i.wellFormed (decodeSize s) s.params.maxCmd = true
      ∧ ringReads s s.cbuf s.rpos i.length = .ok (encode i) ∧ s.rpos + i.length ≤ s.params.cap)
    ∧ (let s := consumerAt 8 [0] started
       let i : Instr := .terminator 0
       AgentTurn s .consumer ∧ s.cstate = .run ∧ i.wellFormed (decodeSize s) s.params.maxCmd = true
        ∧ ringReads s s.cbuf s.rpos i.length = .ok (encode i) ∧ selOf i.opcode = 0) := by decide +kernel

/-- The hypotheses of DecodeFaultsInOrder on a state and word 0, without the clause. -/
def faces (s : State) (w0 : Word) : Prop :=
  AgentTurn s .consumer ∧ s.cstate = .run ∧ ringRead s s.cbuf s.rpos = .ok w0

theorem witness_DecodeFaultsInOrder_internal :
    faces (consumerAt 0 [0x03000000] started) 0x03000000 ∧ faces (consumerAt 8 [0x0F000000] started) 0x0F000000 := by
  unfold faces; decide +kernel

theorem witness_DecodeFaultsInOrder_unbound :
    faces (consumerAt 0 [0x50000000] started) 0x50000000 ∧ started.selMap[selOf 0x50] = none := by
  unfold faces; decide +kernel

theorem witness_DecodeFaultsInOrder_invalid :
    faces (consumerAt 0 [0x31000000] started) 0x31000000 ∧ started.selMap[selOf 0x31] = some 1
      ∧ opSize started 0x31 = some 0 := by unfold faces; decide +kernel

theorem witness_DecodeFaultsInOrder_overrun :
    faces (consumerAt 7 [0x2D000000] started) 0x2D000000 ∧ started.selMap[selOf 0x2D] = some 1
      ∧ opSize started 0x2D = some (1 + 1) ∧ started.params.cap < 7 + (1 + 1) := by unfold faces; decide +kernel

theorem witness_AgentsStepOnlyAsGuardsAllow :
    (AgentTurn (turn .consumer started) .consumer ∧ enabled (turn .consumer started) .consumer = false)
      ∧ (AgentTurn (turn .rasterizer started) .rasterizer ∧ enabled (turn .rasterizer started) .rasterizer = false)
      ∧ (AgentTurn (turn .fenceIrq started) .fenceIrq ∧ enabled (turn .fenceIrq started) .fenceIrq = false)
      ∧ (let s := { turn .producer started with pq := [.waitf 1] }
         AgentTurn s .producer ∧ enabled s .producer = false ∧ issuePending s = false)
      ∧ (let s := { turn .producer switched with pq := [.switch] }
         AgentTurn s .producer ∧ enabled s .producer = false ∧ issuePending s = false)
      ∧ (let s := { turn .producer busy with pq := [.drain, .closeCommit] }
         AgentTurn s .producer ∧ enabled s .producer = false ∧ issuePending s = false) := by decide +kernel

theorem witness_TerminatorConsumesSignalOrIdles : busy.sig = true ∧ started.sig = false := by decide +kernel

theorem witness_NoopAdvancesByOneWord : started.rpos = 0 ∧ started.fault = none := by decide +kernel

theorem witness_JumpMovesToOtherBufferOrFaults :
    started.fault = none ∧ (0x002000 : BitVec 24) = bufBase started.params started.cbuf.other
      ∧ (0x001000 : BitVec 24) ≠ bufBase started.params started.cbuf.other := by decide +kernel

theorem witness_SetLookupAddressWritesEntry :
    CommandReady started (.setLookupAddress 0 0 0 8) 0 ∧ CommandReady started (.setLookupAddress 0 15 15 0xFFFFF8) 0 := by
  decide +kernel

theorem witness_DynamicImagesForwardResolvedAddress :
    CommandReady started (.setColorImageDyn 2 0 320 0 0 8) 1 ∧ CommandReady started (.setZImageDyn 0 3 0 8) 1
      ∧ CommandReady started (.setTextureImageDyn 31 0x1FF 0x3FF 15 15 0xFFFFFF) 1 := by decide +kernel

theorem witness_IdenticalResolution :
    (started.lookup[(3 : BitVec 4).toFin] = busy.lookup[(3 : BitVec 4).toFin])
      ∧ exec (.noop 0) started = .next { started with rpos := 1 }
      ∧ (∀ ignored0 ignored1 addr, Instr.noop 0 ≠ .setLookupAddress ignored0 3 ignored1 addr) :=
  ⟨by decide +kernel, rfl, fun _ _ _ h => nomatch h⟩

theorem witness_ModifyOtherModesMerges :
    CommandReady started (.modifyOtherModes 0 0 0x00300000 0x00200000) 1
      ∧ CommandReady started (.modifyOtherModes 0x7FFFFF 1 0xFFFF 0x12345678) 1 := by decide +kernel

theorem witness_TextureRectangleIsForwarded :
    CommandReady started (.textureRectangle 0x50 0x50 0 1 0 0 0 0 0x400 0x400) 1
      ∧ CommandReady { started with rpos := 4, omHi := 0x200000 } (.textureRectangle 0 0 31 7 0 0 0 0 0 0) 1 := by
  decide +kernel

theorem witness_FlipIsForwardedUnlessCopyMode :
    started.fault = none ∧ CommandReady started (.textureRectangleFlip 0x50 0x50 0 1 0 0 0 0 0x400 0x400) 1
      ∧ started.omHi.extractLsb' 20 2 ≠ 2#2
      ∧ (let s := { started with omHi := 0x200000, rpos := 4 }
         s.fault = none ∧ s.selMap[selOf 0x25] = some 1 ∧ s.rpos + 4 ≤ s.params.cap
          ∧ s.omHi.extractLsb' 20 2 = 2#2) := by decide +kernel

theorem witness_SyncCommandsAreForwarded :
    (∀ i ∈ ([.syncLoad 0 0, .syncPipe 0 0, .syncTile 0xFFFFFF 0xFFFFFFFF, .syncFull 0 0] : List Instr),
      CommandReady started i 1) := by decide +kernel

theorem witness_ModeCommandsAreForwarded :
    (∀ i ∈ ([.setKeyGb 1 2, .setKeyR 1 2, .setConvert 1 2, .setScissor 1 2 0xFF 3 4, .setPrimDepth 1 2] : List Instr),
      CommandReady started i 1) := by decide +kernel

theorem witness_SetOtherModesIsPersisted : CommandReady started (.setOtherModes 0x200000 0x89ABCDEF) 1 := by
  decide +kernel

theorem witness_TileAndColorCommandsAreForwarded :
    (∀ i ∈ ([.loadTlut 1 0 7 2, .setTileSize 1 0 7 2, .loadBlock 1 31 0 2, .loadTile 1 0 1 2, .setTile 1 0 1 2,
      .fillRectangle 1 2 3 4 5, .setFillColor 1 2, .setFogColor 1 2, .setBlendColor 1 2, .setPrimColor 1 2,
      .setEnvColor 1 2, .setCombine 1 2] : List Instr), CommandReady started i 1) := by decide +kernel

theorem witness_ImageCommandsAreForwarded :
    (∀ i ∈ ([.setTextureImage 1 2 3 4 5, .setZImage 1 2 3, .setColorImage 31 511 1023 255 0xFFFFFF] : List Instr),
      CommandReady started i 1) := by decide +kernel

theorem witness_FullQueueStallsConsumer :
    (let s := { started with rzQ := List.replicate 8 syncPipeCmd, rpos := 6 }
     let i : Instr := .setScissor 0 0 0 0 0
     selOf i.opcode ∈ ([1, 2, 3] : List (Fin 16)) ∧ i.opcode ≠ 0x10 ∧ s.selMap[selOf i.opcode] = some 1
      ∧ s.rpos + i.length ≤ s.params.cap ∧ s.params.rzqCap < s.rzQ.length + 1
      ∧ ¬(i.opcode = 0x25 ∧ s.omHi.extractLsb' 20 2 = 2#2)) := by decide +kernel

theorem witness_FullQueueStallsConsumer_client :
    (let out : List Cmd := [syncPipeCmd, ⟨0x3F000000, [0]⟩]
     let h := answering 0xFF (.ok out [7])
     let s := { clients h with rzQ := List.replicate 7 syncPipeCmd }
     Instr.clientSel15 15 0 [] ∈ clientForms 15 0 [] ∧ ClientReady s 0xFF (0 + 1) 2 h
      ∧ handlerValue h 0xFF (encodeCmd (.clientSel15 15 0 [])) s.ovlState[2] = .ok out [7]
      ∧ (∀ d ∈ out, Forwardable d) ∧ out.length ≤ s.params.rzqCap ∧ flipInCopy s.omHi out = none
      ∧ s.params.rzqCap < s.rzQ.length + out.length) := by decide +kernel

theorem witness_ClientCommandCommits :
    (let h := answering 0x40 (.ok [syncPipeCmd, ⟨0x3F000000, [0]⟩] [7])
     let s := clients h
     ClientReady s 0x40 (0 + 1) 2 h ∧ handlerValue h 0x40 (encodeCmd (.clientSel4 0 0 [])) s.ovlState[2]
        = .ok [syncPipeCmd, ⟨0x3F000000, [0]⟩] [7]
      ∧ (∀ d ∈ ([syncPipeCmd, ⟨0x3F000000, [0]⟩] : List Cmd), Forwardable d)
      ∧ s.rzQ.length + 2 ≤ s.params.rzqCap ∧ flipInCopy s.omHi [syncPipeCmd, ⟨0x3F000000, [0]⟩] = none)
    ∧ (let h := answering 0xFF (.ok [] [])
       ClientReady (clients h) 0xFF (0 + 1) 2 h
        ∧ handlerValue h 0xFF (encodeCmd (.clientSel15 15 0 [])) (clients h).ovlState[2] = .ok [] []) := by
  decide +kernel

theorem witness_ClientHandlerFaults_fail :
    (let h := answering 0x40 (.fail [7])
     (clients h).fault = none ∧ ClientReady (clients h) 0x40 (0 + 1) 2 h
      ∧ handlerValue h 0x40 (encodeCmd (.clientSel4 0 0 [])) (clients h).ovlState[2] = .fail [7]) := by decide +kernel

theorem witness_ClientHandlerFaults_forward :
    (let h := answering 0x50 (.ok [syncPipeCmd, syncFullCmd] [0])
     (clients h).fault = none ∧ ClientReady (clients h) 0x50 (0 + 1) 2 h
      ∧ handlerValue h 0x50 (encodeCmd (.clientSel5 0 0 [])) (clients h).ovlState[2]
          = .ok ([syncPipeCmd] ++ syncFullCmd :: []) [0]
      ∧ Forwardable syncPipeCmd ∧ ¬Forwardable syncFullCmd) := by decide +kernel

theorem witness_ClientHandlerFaults_tooMany :
    (let h := answering 0x40 (.ok (List.replicate 9 syncPipeCmd) [0])
     (clients h).fault = none ∧ ClientReady (clients h) 0x40 (0 + 1) 2 h
      ∧ handlerValue h 0x40 (encodeCmd (.clientSel4 0 0 [])) (clients h).ovlState[2]
          = .ok (List.replicate 9 syncPipeCmd) [0]
      ∧ (∀ e ∈ List.replicate 9 syncPipeCmd, Forwardable e)
      ∧ (clients h).params.rzqCap < (List.replicate 9 syncPipeCmd).length) := by decide +kernel

/-- Vector DP9, on a full RZ_Q too, and a FLIP under a persisted COPY mode. -/
theorem witness_ClientHandlerFaults_flip :
    (let mode : Cmd := ⟨0x2F200000, [0]⟩
     let flip : Cmd := ⟨0x25000000, [0, 0, 0]⟩
     let h := answering 0x40 (.ok [mode, flip] [7])
     let s := { clients h with rzQ := List.replicate 8 syncPipeCmd }
     s.fault = none ∧ ClientReady s 0x40 (0 + 1) 2 h
      ∧ handlerValue h 0x40 (encodeCmd (.clientSel4 0 0 [])) s.ovlState[2] = .ok ([mode] ++ flip :: []) [7]
      ∧ (∀ e ∈ [mode] ++ flip :: [], Forwardable e) ∧ ([mode] ++ flip :: []).length ≤ s.params.rzqCap
      ∧ flipInCopy s.omHi [mode] = none ∧ flip.op = 0x25
      ∧ ((([mode].filter (fun d => d.op = 0x2F)).map Cmd.a24).getLastD s.omHi).extractLsb' 20 2 = 2#2)
    ∧ (let s := { started with omHi := 0x200000 }
       flipInCopy s.omHi [] = none
        ∧ (((([] : List Cmd).filter (fun d => d.op = 0x2F)).map Cmd.a24).getLastD s.omHi).extractLsb' 20 2 = 2#2) := by
  decide +kernel

theorem witness_OverlayStateSurvivesOtherCommands :
    exec (.noop 0) started = .next { started with rpos := 1 } ∧ selOf (Instr.noop 0).opcode = 0
      ∧ started.selMap[selOf (Instr.syncPipe 0 0).opcode] ≠ some 2 :=
  ⟨rfl, by decide +kernel, by decide +kernel⟩

theorem witness_PersistedModeFollowsForwardedCommands :
    exec (.terminator 0) busy = .next { busy with sig := false } := rfl

theorem witness_CommandsWriteOnlyConsumerState :
    exec (.jump 0x002000) started = .next { started with cbuf := .b1, rpos := 0 } := rfl

theorem witness_PositionAdvancesBySize :
    (Instr.noop 0).wellFormed (decodeSize started) started.params.maxCmd = true
      ∧ exec (.noop 0) started = .next { started with rpos := 1 }
      ∧ (Instr.terminator 0).wellFormed (decodeSize started) started.params.maxCmd = true
      ∧ exec (.terminator 0) started = .next { started with cstate := .idle } :=
  ⟨by decide +kernel, rfl, by decide +kernel, rfl⟩

theorem witness_LifecycleAndReservationChecks :
    (Issues (host .start started) .start [] ∧ admits started.lc .start = false)
      ∧ (Issues (host (.reserve 5) started) (.reserve 5) [] ∧ admits started.lc (.reserve 5) = true
        ∧ shows (step (host (.reserve 5) started)) (fun t => t.fault.isSome) = true)
      ∧ (let s := { started with resN := 1 }
         Issues (host .close s) .close [] ∧ admits s.lc .close = true ∧ s.resN ≠ 0
          ∧ regionOperation .close = false) := by decide +kernel

theorem witness_InitLeavesStateReady :
    Issues (host .init State.reset) .init [] ∧ State.reset.lc = .uninit ∧ State.reset.resN = 0
      ∧ State.reset.params.valid = true := by decide +kernel

theorem witness_StartOpensTheRing :
    Issues (host .start { started with lc := .ready }) .start [] := by decide +kernel

theorem witness_CloseDrainsThenResets :
    Issues (host .close started) .close []
      ∧ Runs { turn .producer started with pq := [.drain, .closeCommit] } .drain [.closeCommit]
      ∧ (started.switchPending = false ∧ started.resN = 0 ∧ started.cbuf = started.active
        ∧ started.rpos = started.cursor ∧ started.sig = false ∧ started.cstate = .idle ∧ started.rzQ = []
        ∧ started.irqPending = 0)
      ∧ Runs { turn .producer busy with pq := [.drain, .closeCommit] } .drain [.closeCommit] ∧ busy.sig ≠ false
      ∧ Runs { turn .producer started with pq := [.closeCommit] } .closeCommit [] := by decide +kernel

theorem witness_ReserveOpensAndStoreFillsRegion :
    (Issues (host (.reserve 4) started) (.reserve 4) [] ∧ Issues (host (.reserve 5) started) (.reserve 5) [])
      ∧ (let s := { started with resN := 2 }
         Issues (host (.store 1 0x27000000) s) (.store 1 0x27000000) []
          ∧ Issues (host (.store 2 0) s) (.store 2 0) []) := by decide +kernel

theorem witness_PublishEmitsStagedWords :
    (Issues (host .publish started) .publish [] ∧ started.lc = .started ∧ started.resN = 0)
      ∧ (let s := { started with resN := 2, stage := [some 0x27000000, none, none, none] }
         Issues (host .publish s) .publish [] ∧ s.lc = .started ∧ 1 < s.resN ∧ stageAt s 1 = none)
      ∧ (let s := { started with resN := 2, stage := [some 0x27000000, some 0, none, none] }
         Issues (host .publish s) .publish [] ∧ s.lc = .started ∧ syncPipeCmd.size = s.resN
          ∧ s.stage.take s.resN = syncPipeCmd.words.map some) := by decide +kernel

theorem witness_EmitPlacesCommand :
    (let s := { turn .producer started with pq := [.emit syncPipeCmd 0 0], cursor := 6 }
     Runs s (.emit syncPipeCmd 0 0) [] ∧ s.params.valid = true ∧ s.cursor + syncPipeCmd.size ≤ s.params.cap) := by
  decide +kernel

theorem witness_SwitchJumpsToOtherBuffer :
    (let s := { turn .producer started with pq := [.switch], cursor := 8, switchPending := true }
     Runs s .switch [] ∧ s.cbuf = s.active ∧ s.params.valid = true ∧ s.cursor ≤ s.params.cap)
    ∧ (let s := { turn .producer switched with pq := [.switch], cursor := 8, switchPending := true }
       Runs s .switch [] ∧ s.cbuf ≠ s.active) := by decide +kernel

/-- The hypotheses of RegisterClaimsId. -/
def registers (s : State) (d : DescriptorArg) (want : Option Word) : Prop :=
  Issues s (.register d want) [] ∧ s.lc = .ready ∧ s.resN = 0

/-- Its condition `ok` at MAX_CMD = 4. -/
def descriptorFits (d : DescriptorArg) : Prop :=
  d.codeAddr.toNat < 2 ^ 24 ∧ d.dataAddr.toNat < 2 ^ 24 ∧ d.stateAddr.toNat < 2 ^ 24
    ∧ ∀ f : Fin 16, d.cmdSize[f] ≤ 4 ∧ (d.cmdSize[f] = 0 ↔ d.handler.meanings.getLsbD f.val = false)

theorem witness_RegisterClaimsId_refused :
    (registers (host (.register { pipeDesc with codeAddr := 0x01000000 } none) { started with lc := .ready })
        { pipeDesc with codeAddr := 0x01000000 } none
      ∧ ¬descriptorFits { pipeDesc with codeAddr := 0x01000000 })
    ∧ (registers (host (.register pipeDesc (some 16)) { started with lc := .ready }) pipeDesc (some 16)
      ∧ descriptorFits pipeDesc ∧ 16 ≤ (16 : Word).toNat)
    ∧ (let s := { started with lc := .ready, ovlValid := Vector.replicate 16 true }
       registers (host (.register pipeDesc none) s) pipeDesc none ∧ ∀ i : Fin 16, 2 ≤ i → s.ovlValid[i] = true)
    ∧ (registers (host (.register pipeDesc (some (wordOfNat 1))) { started with lc := .ready }) pipeDesc
          (some (wordOfNat 1))
      ∧ started.ovlValid[1] = true ∧ ¬∀ i : Fin 16, 2 ≤ i → started.ovlValid[i] = true) := by
  unfold registers descriptorFits; decide +kernel

theorem witness_RegisterClaimsId_claims :
    (registers (host (.register pipeDesc (some (wordOfNat 15))) { started with lc := .ready }) pipeDesc
        (some (wordOfNat 15))
      ∧ descriptorFits pipeDesc ∧ started.ovlValid[15] = false)
    ∧ (let s := { started with lc := .ready, ovlValid := started.ovlValid.set 2 true }
       registers (host (.register pipeDesc none) s) pipeDesc none ∧ s.ovlValid[3] = false
        ∧ ∀ j : Fin 16, 2 ≤ j → j < 3 → s.ovlValid[j] = true) := by
  unfold registers descriptorFits; decide +kernel

theorem witness_BindMapsSelector :
    (let s := { clients pipeHandler with lc := .ready, selMap := started.selMap }
     (Issues (host (.bind 2 3) s) (.bind 2 3) [] ∧ s.lc = .ready ∧ s.resN = 0 ∧ (3 : Word).toNat ≤ 3)
      ∧ (Issues (host (.bind 2 16) s) (.bind 2 16) [] ∧ 15 < (16 : Word).toNat)
      ∧ (Issues (host (.bind 1 4) s) (.bind 1 4) [] ∧ 3 < (4 : Word).toNat ∧ (4 : Word).toNat ≤ 15
        ∧ (1 : Word).toNat < 2)
      ∧ (Issues (host (.bind 2 15) s) (.bind 2 15) [] ∧ (15 : Word) = wordOfNat (15 : Fin 16).val
        ∧ (2 : Word) = wordOfNat (2 : Fin 16).val ∧ s.ovlValid[2] = true ∧ s.selMap[15] = none)) := by decide +kernel

theorem witness_RegistryIsFrozenWhileStarted :
    nextTurn (turn .consumer started) = .agent .consumer ∧ (turn .consumer started).lc = .started
      ∧ step (turn .consumer started) = .next started ∧ (turn .consumer started).pq.head? ≠ some .closeCommit :=
  ⟨rfl, rfl, rfl, by decide +kernel⟩

theorem witness_WriteChecksInOrder :
    (let op : PortOp := .write .auto 0x2D 0x028028 [0x00078078] 0 0
     Issues (host op started) op [] ∧ started.lc = .started ∧ started.resN = 0)
    ∧ (let op : PortOp := .write .syncUse 0x36 0 [0] 0x800 0
       Issues (host op started) op [] ∧ started.lc = .started ∧ started.resN = 0) := by decide +kernel

theorem witness_WriteEmitsNeededSyncs :
    (let op : PortOp := .write .syncChange 0x34 0 [0x01000000] 0x002 0x501
     let s := host op { started with autosync := 0x503 }
     Issues s op [] ∧ shows (step s) (fun t => t.fault.isNone) = true) := by decide +kernel

theorem witness_HazardTableRows :
    (∀ op ∈ ([0x01, 0x10, 0x24, 0x25, 0x30, 0x33, 0x34, 0x32, 0x35, 0x36, 0x11, 0x3F, 0x26, 0x27, 0x28, 0x29]
      : List Byte), (Cmd.op ⟨op ++ 0#24, [0x07000000]⟩) = op) := by decide +kernel

theorem witness_ExplicitSyncsClearTheirClass :
    (∀ op ∈ ([.syncPipe, .syncTile, .syncLoad] : List PortOp), Issues (host op started) op []) := by decide +kernel

theorem witness_FenceAndWaitQueueSyncFull :
    Issues (host (.fence 9 7) started) (.fence 9 7) [] ∧ Issues (host .wait started) .wait []
      ∧ (let s := { turn .producer started with pq := [.waitf 1] }
         Runs s (.waitf 1) [] ∧ s.fenceDone ≠ 1)
      ∧ (let s := { turn .producer started with pq := [.waitf 1], fenceDone := 1 }
         Runs s (.waitf 1) [] ∧ s.fenceDone = 1) := by decide +kernel

theorem witness_ConfigSetsEnables :
    Issues (host (.config 1 1) started) (.config 1 1) [] ∧ Issues (host (.config 8 0) started) (.config 8 0) [] := by
  decide +kernel

theorem witness_RasterizerCompletesInOrder :
    AgentTurn (turn .rasterizer started) .rasterizer ∧ started.rzQ = []
      ∧ (let s := { turn .rasterizer started with rzQ := [syncFullCmd], rzInuse := 0x502 }
         AgentTurn s .rasterizer ∧ hzChange syncFullCmd &&& s.rzInuse = 0)
      ∧ (let s := { turn .rasterizer started with rzQ := [⟨0x35000000, [0x01000000]⟩], rzInuse := 0x502 }
         AgentTurn s .rasterizer ∧ hzChange ⟨0x35000000, [0x01000000]⟩ &&& s.rzInuse ≠ 0) := by decide +kernel

theorem witness_FenceIrqServicesOldestFence :
    (AgentTurn (turn .fenceIrq started) .fenceIrq ∧ started.irqPending = 0)
      ∧ (let s := { turn .fenceIrq started with irqPending := 1 }
         AgentTurn s .fenceIrq ∧ 0 < s.irqPending ∧ s.fenceQ = [])
      ∧ (let s := { turn .fenceIrq started with irqPending := 1, fenceQ := [.noCb], fenceDone := 0xFFFFFFFF }
         AgentTurn s .fenceIrq ∧ 0 < s.irqPending ∧ s.fenceQ = .noCb :: []) := by decide +kernel

/-- A halted block. -/
def halted : State := { started with fault := some ⟨.contract, .badJump, .consumer, [0x02001000, 0, 0]⟩ }

theorem witness_FaultIsPreciseAndHalts :
    (let s := consumerAt 0 [0x02001000] started
     s.fault = none ∧ step s = .next (faulted s .consumer .badJump [0x02001000, 0, 0]))
    ∧ halted.fault = some ⟨.contract, .badJump, .consumer, [0x02001000, 0, 0]⟩
    ∧ nextTurn (turn .producer halted) = .agent .producer
    ∧ step { halted with turns := [.powerOn] } = .next (powerOnReset { halted with turns := [] }) :=
  ⟨⟨rfl, rfl⟩, rfl, rfl, rfl⟩

theorem witness_PowerOnResetsEveryElement : nextTurn { halted with turns := [.powerOn] } = .powerOn := rfl

theorem started_stateInv : StateInv started := by constructor <;> decide +kernel

theorem started_ringInv : RingInv started [] where
  notStarted h := absurd rfl h
  terminator _ := by decide +kernel
  here _ _ := by decide +kernel
  behind _ h := absurd (by decide +kernel) h
  commands := by simp
  queued := by simp [started, emitsOf, initState, State.resetWith]
  idle _ _ := by decide +kernel
  switch := by decide +kernel
  oneSwitch := by decide +kernel
  close := by decide +kernel

theorem syncFull_emittable : Emittable busy syncFullCmd := by constructor <;> decide +kernel

theorem busy_stateInv : StateInv busy := by constructor <;> decide +kernel

theorem busy_ringInv : RingInv busy [syncFullCmd] where
  notStarted h := absurd rfl h
  terminator _ := by decide +kernel
  here _ _ := by decide +kernel
  behind _ h := absurd (by decide +kernel) h
  commands c hc := by rw [List.mem_singleton] at hc; subst hc; exact syncFull_emittable
  queued := by simp [busy, started, emitsOf, initState, State.resetWith]
  idle _ h := absurd h (by decide +kernel)
  switch := by decide +kernel
  oneSwitch := by decide +kernel
  close := by decide +kernel

theorem busy_fenceInv : FenceInv busy [syncFullCmd] where
  entries := by decide +kernel
  counters := by decide +kernel
  waiting := by simp [busy, started, initState, State.resetWith]
  waitLast := by simp [busy, started, initState, State.resetWith]

theorem busy_trackerInv : TrackerInv busy [syncFullCmd] where
  enabled := by decide +kernel
  host := by simp [busy, started, initState, State.reset, State.resetWith]
  builtin := by decide +kernel
  free := ⟨by decide +kernel, trivial⟩
  covered := by decide +kernel

theorem busy_runInv : RunInv busy := ⟨busy_stateInv, _, busy_ringInv, busy_fenceInv⟩

/-- The turn does not matter to the invariants. -/
theorem busy_turn_runInv (a : Agent) : RunInv (turn a busy) := by
  obtain ⟨h1, q, h2, h3⟩ := busy_runInv
  exact ⟨⟨h1.1, h1.2, h1.3, h1.4, h1.5, h1.6, h1.7, h1.8, h1.9, h1.10, h1.11, h1.12, h1.13, h1.14, h1.15, h1.16⟩, q,
    ⟨h2.1, h2.2, fun l c => ⟨(h2.3 l c).1, (ringReads_congr (s := busy) (t := turn a busy) rfl rfl .b0 0 _).trans (h2.3 l c).2⟩,
      fun _ c => absurd (show busy.cbuf = busy.active by decide +kernel) c,
      fun c hc => ⟨(h2.5 c hc).1, (h2.5 c hc).2, (h2.5 c hc).3, (h2.5 c hc).4⟩,
      fun c hc => ⟨(h2.6 c hc).1, (h2.6 c hc).2, (h2.6 c hc).3, (h2.6 c hc).4⟩, h2.7, h2.8, h2.9, h2.10⟩,
    ⟨h3.1, h3.2, h3.3, h3.4⟩⟩

/-- The consumer's next step executes the SYNC_FULL. -/
theorem busy_step :
    step (turn .consumer busy)
      = .next { busy with rzQ := [⟨0x29000000, [0]⟩], curOvl := 1, rpos := 2 } := by rfl

theorem witness_StateInvariantIsKept :
    StateInv started ∧ StateInv (turn .consumer busy)
      ∧ step (turn .consumer busy) = .next { busy with rzQ := [⟨0x29000000, [0]⟩], curOvl := 1, rpos := 2 } :=
  ⟨started_stateInv, (busy_turn_runInv _).1, busy_step⟩

theorem witness_RingDeliversCommandsInOrder : StateInv busy ∧ RingInv busy [syncFullCmd] ∧ StateInv started
    ∧ RingInv started [] := ⟨busy_stateInv, busy_ringInv, started_stateInv, started_ringInv⟩

/-- The consumer behind the producer: case 4 of R170 (statement RingDeliversCommandsInOrder). -/
theorem witness_RingDeliversCommandsInOrder_behind : RingInv switched [syncPipeCmd] where
  notStarted h := absurd rfl h
  terminator _ := by decide +kernel
  here _ h := absurd h (by decide +kernel)
  behind _ _ := ⟨[syncPipeCmd], [], rfl, by decide +kernel, by decide +kernel, by decide +kernel⟩
  commands c hc := by
    rw [List.mem_singleton] at hc; subst hc; constructor <;> decide +kernel
  queued := by simp [switched, started, emitsOf, initState, State.resetWith]
  idle _ h := absurd h (by decide +kernel)
  switch := by decide +kernel
  oneSwitch := by decide +kernel
  close := by decide +kernel

theorem witness_SafeRunIsKept :
    RunInv (turn .consumer busy)
      ∧ step (turn .consumer busy) = .next { busy with rzQ := [⟨0x29000000, [0]⟩], curOvl := 1, rpos := 2 } :=
  ⟨busy_turn_runInv _, busy_step⟩

theorem witness_ResetIsSafe : defaultParams.valid = true := by decide +kernel

theorem witness_SafeRunNeverGetsStuck : RunInv busy ∧ busy.fault = none := ⟨busy_runInv, rfl⟩

/-- A safe run in which a step faults: the host issues `start` again. -/
theorem witness_DefensiveChecksNeverFail :
    RunInv (turn .producer busy) ∧ (turn .producer busy).fault = none
      ∧ shows (step (host .start busy)) (fun t => t.fault.isSome) = true :=
  ⟨busy_turn_runInv _, rfl, by decide +kernel⟩

theorem witness_TrackerNeverUnderSyncs :
    StateInv busy ∧ RingInv busy [syncFullCmd] ∧ TrackerInv busy [syncFullCmd] ∧ busy.fault = none :=
  ⟨busy_stateInv, busy_ringInv, busy_trackerInv, rfl⟩

theorem witness_DrainedMeansDone :
    RingInv started [] ∧ FenceInv started [] ∧ started.lc ≠ .uninit ∧ drained started = true
      ∧ emitsOf started.pq = [] ∧ started.fault = none ∧ quiescent started = true ∧ started.resN = 0 :=
  ⟨started_ringInv, ⟨by decide +kernel, by decide +kernel, by simp [started, initState, State.resetWith],
      by simp [started, initState, State.resetWith]⟩,
    by decide +kernel, by decide +kernel, by decide +kernel, rfl, by decide +kernel, by decide +kernel⟩

theorem witness_EveryAgentTakesItsTurn : RunInv busy ∧ busy.turns = [] := ⟨busy_runInv, by decide +kernel⟩

theorem witness_EveryRunEnds :
    RunInv busy ∧ runEnded busy = false
      ∧ runEnded (turn .consumer started) = true ∧ nextTurn (turn .consumer started) = .agent .consumer
      ∧ runEnded (turn .producer halted) = true ∧ nextTurn (turn .producer halted) = .agent .producer :=
  ⟨busy_runInv, by decide +kernel, by decide +kernel, rfl, by decide +kernel, rfl⟩

/-- R401, R479: a halted block is quiescent though its consumer was running and its queues are not empty. -/
theorem test_quiescent_when_halted :
    quiescent { busy with fault := halted.fault, rzQ := [syncFullCmd], irqPending := 1 } = true
      ∧ quiescent { busy with rzQ := [syncFullCmd] } = false := by decide +kernel

/-- R480: a run ends at the fault, with the logs and the record as its result. -/
theorem test_run_ends_at_fault :
    (let s := { turn .rasterizer started with rzQ := [⟨0x2D028028, [0x00078078]⟩], rzInuse := 0x400, cbLog := [⟨9, 7⟩] }
     (runToEnd 1 s).map (fun r => (r.delivered, r.callbacks, r.fault))
      = some ([], [⟨9, 7⟩], some ⟨.undefined, .rzHazard, .rasterizer, [0x2D028028, 0x400]⟩)) := by decide +kernel

/-- R480: a run with no operation left ends when the last step leaves the block quiescent. -/
theorem test_run_ends_quiescent :
    (let s := { turn .fenceIrq started with irqPending := 1, fenceQ := [.call ⟨9, 7⟩] }
     runResult s = none ∧ (runToEnd 1 s).map (fun r => (r.callbacks, r.fault)) = some ([⟨9, 7⟩], none)) := by
  decide +kernel

end Sys2Proof.Tests
end

