-- ==== Sys2Proof/Proofs/Reset.lean ====
section
/-! The reset state (10_state.md R60, 70_reset_and_hazards.md R450) meets the invariants of a safe run. Before `init`
nothing is queued, nothing is registered or bound, and the consumer is idle, so each clause holds of an empty list, of a
table with the same entry everywhere, or of a later lifecycle state only. -/
namespace Sys2Proof.Proofs

open Sys2Proof Sys2Proof.Machine

/-- R60: no overlay is registered at reset. -/
theorem resetWith_ovlValid_ne_true (p : Params) (id : Fin 16) : (State.resetWith p).ovlValid[id] ≠ true := by
  simp [State.resetWith]

/-- R60: every selector is unbound at reset. -/
theorem resetWith_selMap_ne_some (p : Params) (sel id : Fin 16) : (State.resetWith p).selMap[sel] ≠ some id := by
  simp [State.resetWith]

/-- R46, R60: every LOOKUP entry is 0 at reset. -/
theorem resetWith_lookup (p : Params) (i : Fin 16) : (State.resetWith p).lookup[i] = 0 := by
  simp [State.resetWith]

/-- R10 is used once, for the parameters themselves: every other bound compares 0 with a parameter. -/
theorem resetWith_stateInv (p : Params) (hp : p.valid = true) : StateInv (State.resetWith p) where
  params := hp
  memory := memWf_reset p
  autosync := BitVec.zero_and
  rzInuse := BitVec.zero_and
  lookup := resetWith_lookup p 0
  rzQ := Nat.zero_le _
  cursor := Nat.zero_le _
  sentinel _ := Nat.zero_le _
  resN := Nat.zero_le _
  stage := List.length_replicate
  reservation _ := rfl
  uninit _ := ⟨rfl, rfl⟩
  builtins initialized := absurd rfl initialized
  bound sel id isBound := absurd isBound (resetWith_selMap_ne_some p sel id)
  clients sel id _ isBound := absurd isBound (resetWith_selMap_ne_some p sel id)
  descriptors id _ isValid := absurd isValid (resetWith_ovlValid_ne_true p id)

/-- R170 speaks of the ring only once `init` has written it; at reset only the clauses on the empty PQ remain. -/
theorem resetWith_ringInv (p : Params) : RingInv (State.resetWith p) [] where
  notStarted _ := ⟨rfl, rfl, fun _ inPq => absurd inPq List.not_mem_nil⟩
  terminator initialized := absurd rfl initialized
  here initialized := absurd rfl initialized
  behind initialized := absurd rfl initialized
  commands _ inRing := absurd inRing List.not_mem_nil
  queued _ toEmit := absurd toEmit List.not_mem_nil
  idle initialized := absurd rfl initialized
  switch := by simp [State.resetWith]
  oneSwitch := List.not_mem_nil
  close inPq := absurd inPq List.not_mem_nil

/-- R53: FENCE_Q is empty and FENCE_ISSUED = FENCE_DONE at reset, so no fence is outstanding. -/
theorem resetWith_fenceInv (p : Params) : FenceInv (State.resetWith p) [] where
  entries := rfl
  counters := rfl
  waiting _ inPq := absurd inPq List.not_mem_nil
  waitLast _ := List.not_mem_nil

/-- R52, R55: every class is enabled and no resource is in use at reset, with nothing on its way to the rasterizer. -/
theorem resetWith_trackerInv (p : Params) : TrackerInv (State.resetWith p) [] where
  enabled := rfl
  host _ toIssue := absurd toIssue List.not_mem_nil
  builtin _ toCome := absurd toCome List.not_mem_nil
  free := trivial
  covered := BitVec.zero_and

theorem resetWith_runInv (p : Params) (hp : p.valid = true) : RunInv (State.resetWith p) :=
  ⟨resetWith_stateInv p hp, [], resetWith_ringInv p, resetWith_fenceInv p⟩

/-- The test defaults of R10 meet its constraints (log 1). -/
theorem defaultParams_valid : defaultParams.valid = true := by decide +kernel

/-- Settles O54: each invariant holds of the reset state under every valid parameter set, and State.reset is the one
under the test defaults. -/
theorem resetIsSafe : Obligations.ResetIsSafe :=
  ⟨defaultParams_valid, resetWith_runInv,
    resetWith_ringInv defaultParams, resetWith_fenceInv defaultParams, resetWith_trackerInv defaultParams⟩

end Sys2Proof.Proofs
end

section
/-! What one command can do, said once (43_consumer_dispatch.md R260 to R277): every command outside selector 0 goes
through `dispatch`, and the outcomes of `exec` are seven. -/
namespace Sys2Proof.Proofs

open Sys2Proof Sys2Proof.Machine

/-! ### Opcodes and sizes of the encoding -/

/-- The per-command laws of EncodedSize, for every command. -/
theorem encodedSize (i : Instr) : Laws.EncodedSize.Statement i := by
  cases i
  case terminator => exact Laws.EncodedSize.terminator _
  case noop => exact Laws.EncodedSize.noop _
  case jump => exact Laws.EncodedSize.jump _
  case setLookupAddress => exact Laws.EncodedSize.setLookupAddress _ _ _ _
  case setColorImageDyn => exact Laws.EncodedSize.setColorImageDyn _ _ _ _ _ _
  case setZImageDyn => exact Laws.EncodedSize.setZImageDyn _ _ _ _
  case setTextureImageDyn => exact Laws.EncodedSize.setTextureImageDyn _ _ _ _ _ _
  case modifyOtherModes => exact Laws.EncodedSize.modifyOtherModes _ _ _ _
  case textureRectangle => exact Laws.EncodedSize.textureRectangle _ _ _ _ _ _ _ _ _ _
  case textureRectangleFlip => exact Laws.EncodedSize.textureRectangleFlip _ _ _ _ _ _ _ _ _ _
  case setScissor => exact Laws.EncodedSize.setScissor _ _ _ _ _
  case fillRectangle => exact Laws.EncodedSize.fillRectangle _ _ _ _ _
  case setTextureImage => exact Laws.EncodedSize.setTextureImage _ _ _ _ _
  case setColorImage => exact Laws.EncodedSize.setColorImage _ _ _ _ _
  all_goals exact ⟨rfl, field_append_high (n := 24) _ _⟩

theorem encodeCmd_op (i : Instr) : (encodeCmd i).op = i.opcode := (encodedSize i).2

/-! ### The handler of a command -/

/-- What the built-in overlay's handler for a command forwards, and the state it leaves; none for a client command
(43_consumer_dispatch.md R270, 44_rasterizer_commands.md R300, 45_fixup_commands.md R370 to R376). -/
def builtinAnswer (s : State) : Instr → Option (List Cmd × State)
  | .setLookupAddress _ index _ addr => some ([], lookupWrite s index addr)
  | .setColorImageDyn format opaque0 strideUnits index _ offset =>
    some ([encodeCmd (.setColorImage format opaque0 strideUnits 0 (resolve s index offset))], s)
  | .setZImageDyn opaque0 index _ offset => some ([encodeCmd (.setZImage opaque0 0 (resolve s index offset))], s)
  | .setTextureImageDyn format opaque0 strideUnits index _ offset =>
    some ([encodeCmd (.setTextureImage format opaque0 strideUnits 0 (resolve s index offset))], s)
  | .modifyOtherModes _ half mask value =>
    some ([if half = 0 then
        encodeCmd (.setOtherModes (maskedMerge s.omHi (lowBits 24 mask) (lowBits 24 value)) s.omLo)
      else encodeCmd (.setOtherModes s.omHi (maskedMerge s.omLo mask value))], s)
  | .clientSel4 _ _ _ | .clientSel5 _ _ _ | .clientSel6 _ _ _ | .clientSel7 _ _ _ | .clientSel8 _ _ _
  | .clientSel9 _ _ _ | .clientSel10 _ _ _ | .clientSel11 _ _ _ | .clientSel12 _ _ _ | .clientSel13 _ _ _
  | .clientSel14 _ _ _ | .clientSel15 _ _ _ => none
  | i => some ([encodeCmd i], s)

/-- The internal commands are those of selector 0 (30_encoding.md R113). -/
theorem internal_of_selOf {i : Instr} (h : selOf i.opcode = 0) :
    (∃ ignored, i = .terminator ignored) ∨ (∃ ignored, i = .noop ignored) ∨ ∃ target, i = .jump target := by
  have selector (sel fn : BitVec 4) : selOf (sel ++ fn) = sel.toFin := congrArg BitVec.toFin (field_append_high sel fn)
  cases i with
  | terminator ignored => exact .inl ⟨ignored, rfl⟩
  | noop ignored => exact .inr (.inl ⟨ignored, rfl⟩)
  | jump target => exact .inr (.inr ⟨target, rfl⟩)
  | _ =>
    simp only [Instr.opcode, selector] at h
    exact absurd h (by decide)

/-- R260: every other command is dispatched, with the built-in handler's answer. -/
theorem exec_eq_dispatch {i : Instr} (external : selOf i.opcode ≠ 0) (s : State) :
    exec i s = settle .consumer s (dispatch s (encodeCmd i) (builtinAnswer s i)) := by
  cases i with
  | terminator => exact absurd (show selOf 0x00#8 = 0 by decide) external
  | noop => exact absurd (show selOf 0x01#8 = 0 by decide) external
  | jump => exact absurd (show selOf 0x02#8 = 0 by decide) external
  | _ => rfl

/-- The LOOKUP entry a command writes is never entry 0 (10_state.md R46, 45_fixup_commands.md R370). -/
theorem lookupWrite_lookup_zero (s : State) (index : BitVec 4) (addr : Addr) :
    (lookupWrite s index addr).lookup[0] = s.lookup[0] := by
  unfold lookupWrite
  split
  · rfl
  · next notZero =>
    exact Vector.getElem_set_ne index.toFin.isLt (by decide) fun same => notZero (BitVec.eq_of_toNat_eq same)

theorem syncFulls_encodeCmd {i : Instr} (other : i.opcode ≠ 0x29#8) : syncFulls [encodeCmd i] = 0 := by
  simp [syncFulls, encodeCmd_op, other]

/-- The three kinds of built-in handler: the command itself is forwarded, one LOOKUP entry is written, or another
command is forwarded in its place. -/
theorem builtinAnswer_eq_some {s u : State} {i : Instr} {out : List Cmd} (h : builtinAnswer s i = some (out, u)) :
    (out = [encodeCmd i] ∧ u = s)
      ∨ i.opcode ≠ 0x29#8 ∧
        ((∃ index addr, out = [] ∧ u = lookupWrite s index addr)
          ∨ ∃ j : Instr, j.opcode ≠ 0x29#8 ∧ out = [encodeCmd j] ∧ u = s) := by
  cases i with
  | setLookupAddress ignored0 index ignored1 addr =>
    cases h
    exact .inr ⟨by simp [Instr.opcode], .inl ⟨index, addr, rfl, rfl⟩⟩
  | setColorImageDyn | setZImageDyn | setTextureImageDyn =>
    cases h
    exact .inr ⟨by simp [Instr.opcode], .inr ⟨_, by simp [Instr.opcode], rfl, rfl⟩⟩
  | modifyOtherModes ignored0 half mask value =>
    cases h
    refine .inr ⟨by simp [Instr.opcode], .inr ?_⟩
    split <;> exact ⟨_, by simp [Instr.opcode], rfl, rfl⟩
  | _ => cases h <;> exact .inl ⟨rfl, rfl⟩

/-- What a built-in handler writes itself: LOOKUP, and never entry 0. -/
theorem builtinAnswer_writes {s u : State} {i : Instr} {out : List Cmd} (h : builtinAnswer s i = some (out, u)) :
    u = { s with lookup := u.lookup } ∧ u.lookup[0] = s.lookup[0] := by
  obtain ⟨-, rfl⟩ | ⟨-, ⟨index, addr, -, rfl⟩ | ⟨-, -, -, rfl⟩⟩ := builtinAnswer_eq_some h
  · exact ⟨rfl, rfl⟩
  · exact ⟨by unfold lookupWrite; split <;> rfl, lookupWrite_lookup_zero s index addr⟩
  · exact ⟨rfl, rfl⟩

/-- Only SYNC_FULL itself forwards a SYNC_FULL from the built-in overlay (44_rasterizer_commands.md R307). -/
theorem builtinAnswer_syncFulls {s u : State} {i : Instr} {out : List Cmd} (h : builtinAnswer s i = some (out, u)) :
    syncFulls out = syncFulls [encodeCmd i] := by
  obtain ⟨rfl, -⟩ | ⟨other, ⟨-, -, rfl, -⟩ | ⟨j, otherOut, rfl, -⟩⟩ := builtinAnswer_eq_some h
  · rfl
  · exact (syncFulls_encodeCmd other).symm
  · rw [syncFulls_encodeCmd other, syncFulls_encodeCmd otherOut]

/-- R272: a handler writes LOOKUP entries other than 0, or a client overlay's own state, and nothing else. -/
theorem handlerOf_writes {s u : State} {id : Fin 16} {i : Instr} {out : List Cmd}
    (h : handlerOf s id (encodeCmd i) (builtinAnswer s i) = .ok (out, u)) :
    u = { s with lookup := u.lookup, ovlState := u.ovlState } ∧ u.lookup[0] = s.lookup[0] := by
  obtain ⟨-, answer⟩ | ⟨-, answer⟩ := handlerOf_ok h
  · obtain ⟨frame, entry0⟩ := builtinAnswer_writes answer
    exact ⟨by rw [frame], entry0⟩
  · obtain ⟨_, st, -, -, -, -, rfl⟩ := clientHandler_ok answer
    exact ⟨rfl, rfl⟩

/-- R275: a client handler forwards no SYNC_FULL, and a built-in one only SYNC_FULL itself. -/
theorem handlerOf_syncFulls {s u : State} {id : Fin 16} {i : Instr} {out : List Cmd}
    (h : handlerOf s id (encodeCmd i) (builtinAnswer s i) = .ok (out, u)) (builtin : i.opcode = 0x29#8 → id = 1) :
    syncFulls out = syncFulls [encodeCmd i] := by
  obtain ⟨-, answer⟩ | ⟨client, answer⟩ := handlerOf_ok h
  · exact builtinAnswer_syncFulls answer
  · obtain ⟨_, _, -, -, forwardable, -, -⟩ := clientHandler_ok answer
    have noSyncFull : syncFulls out = 0 :=
      List.countP_eq_zero.mpr fun d inOut => by simpa using (mayNotForward_eq_false.mp (forwardable d inOut)).2.2
    rw [noSyncFull, syncFulls_encodeCmd (mt builtin client)]

/-! ### The outcomes of a command -/

/-- The next states of a command in a state (R260): the three internal commands, the fault of a check, the stall on a
full RZ_Q (R277), and the commit of a handler's output. -/
inductive CommandOutcome (i : Instr) (s : State) : State → Prop
  | signalled (ignored : BitVec 24) (command : i = .terminator ignored) (signal : s.sig = true) :
    CommandOutcome i s { s with sig := false }
  | paused (ignored : BitVec 24) (command : i = .terminator ignored) (noSignal : s.sig = false) :
    CommandOutcome i s { s with cstate := .idle }
  | skipped (ignored : BitVec 24) (command : i = .noop ignored) : CommandOutcome i s { s with rpos := s.rpos + 1 }
  | jumped (target : BitVec 24) (command : i = .jump target) (base : target = bufBase s.params s.cbuf.other) :
    CommandOutcome i s { s with cbuf := s.cbuf.other, rpos := 0 }
  | raised (code : FaultCode) (info : List Word) : CommandOutcome i s (raise s .consumer code info)
  | stalled : CommandOutcome i s s
  | committed (id : Fin 16) (n : Nat) (out : List Cmd) (u : State) (external : selOf i.opcode ≠ 0)
    (extent : overlayExtent s i.opcode = .ok (id, n))
    (handled : handlerOf s id (encodeCmd i) (builtinAnswer s i) = .ok (out, u))
    (fits : s.rzQ.length + out.length ≤ s.params.rzqCap) :
    CommandOutcome i s { forward u out with curOvl := id, rpos := s.rpos + n }

theorem exec_outcome {i : Instr} {s t : State} (h : exec i s = .next t) : CommandOutcome i s t := by
  by_cases external : selOf i.opcode ≠ 0
  · rw [exec_eq_dispatch external] at h
    obtain ok | ⟨code, info, -, rfl⟩ := settle_next h
    · obtain ⟨id, n, out, u, extent, handled, commit⟩ := dispatch_ok ok
      rw [encodeCmd_op] at extent
      obtain ⟨-, ⟨-, rfl⟩ | ⟨fits, rfl⟩⟩ := commitCommand_ok commit
      · exact .stalled
      · exact .committed id n out u external extent handled fits
    · exact .raised code info
  · obtain ⟨ignored, rfl⟩ | ⟨ignored, rfl⟩ | ⟨target, rfl⟩ := internal_of_selOf (Decidable.not_not.mp external)
    · have completed : (if s.sig = true then { s with sig := false } else { s with cstate := .idle }) = t := by
        simpa [exec, execTerminator] using h
      subst completed
      split
      · next signal => exact .signalled ignored rfl signal
      · next noSignal => exact .paused ignored rfl (by simpa using noSignal)
    · have completed : { s with rpos := s.rpos + 1 } = t := by simpa [exec, execNoop] using h
      exact completed ▸ .skipped ignored rfl
    · obtain ok | ⟨code, info, -, rfl⟩ := settle_next h
      · split at ok
        · next base => exact Except.ok.inj ok ▸ .jumped target rfl base
        · cases ok
      · exact .raised code info

/-- R60: the elements a command can write; all others are as before it. -/
theorem exec_frame {i : Instr} {s t : State} (h : exec i s = .next t) :
    t = { s with
      fault := t.fault, sig := t.sig, cstate := t.cstate, cbuf := t.cbuf, rpos := t.rpos, curOvl := t.curOvl
      lookup := t.lookup, omHi := t.omHi, omLo := t.omLo, ovlState := t.ovlState, rzQ := t.rzQ } := by
  cases exec_outcome h with
  | raised code info =>
    unfold raise
    split <;> rfl
  | committed id n out u external extent handled fits =>
    rw [(handlerOf_writes handled).1]
    rfl
  | _ => rfl

/-- Settles O26: the frame of `exec`, element by element. -/
theorem commandsWriteOnlyConsumerState : Obligations.CommandsWriteOnlyConsumerState := by
  intro i s t h
  rw [exec_frame h]
  exact ⟨rfl, rfl, rfl, rfl, rfl, rfl, rfl, rfl, rfl, rfl, rfl, rfl, rfl, rfl, rfl, rfl, rfl, rfl, rfl, rfl, rfl, rfl,
    rfl, rfl, rfl⟩

/-- Settles O25: a commit appends the handler's output, and every other outcome appends nothing. -/
theorem persistedModeFollowsForwardedCommands : Obligations.PersistedModeFollowsForwardedCommands := by
  intro i s t h
  cases exec_outcome h with
  | committed id n out u external extent handled fits =>
    rw [(handlerOf_writes handled).1]
    exact ⟨out, rfl, rfl, rfl, by simpa using .inr fits⟩
  | raised code info => exact ⟨[], by simp [omHiAfter, omLoAfter]⟩
  | _ => exact ⟨[], by simp [omHiAfter, omLoAfter]⟩

/-- Settles O10: SET_LOOKUP_ADDRESS is a fixup that forwards nothing, so the mode words and RZ_Q stay. -/
theorem setLookupAddressWritesEntry : Obligations.SetLookupAddressWritesEntry := by
  intro s ignored0 index ignored1 addr ready
  have committed := fixup_ready (out := []) (t := lookupWrite s index addr) ready (n := 1) rfl rfl
    (show selOf 0x10#8 < 4 by decide) (encodeCmd_op _) rfl
  refine committed.trans (congrArg _ ?_)
  unfold lookupWrite
  split <;> simp [forward, omHiAfter, omLoAfter]

end Sys2Proof.Proofs
end

section
/-! What one step can do, said once: the agent whose turn it is, its micro-step or port operation, and the state each
leaves (00_scope.md R5, 10_state.md R58, 30_encoding.md R125). -/
namespace Sys2Proof.Proofs

open Sys2Proof Sys2Proof.Machine

/-! ### Hazard masks (10_state.md R50, 42_encoder_autosync.md R213, R220) -/

theorem or_reserved {a b : HazardMask} (ha : a &&& ~~~allMask = 0) (hb : b &&& ~~~allMask = 0) :
    (a ||| b) &&& ~~~allMask = 0 := by
  rw [BitVec.and_or_distrib_right, ha, hb]
  rfl

theorem and_reserved {a : HazardMask} (m : HazardMask) (ha : a &&& ~~~allMask = 0) : (a &&& m) &&& ~~~allMask = 0 := by
  rw [BitVec.and_assoc, BitVec.and_comm m, ← BitVec.and_assoc, ha]
  exact BitVec.zero_and

theorem left_reserved_of_or {a b : HazardMask} (h : (a ||| b) &&& ~~~allMask = 0) : a &&& ~~~allMask = 0 := by
  rw [BitVec.and_or_distrib_right] at h
  exact (BitVec.or_eq_zero_iff.mp h).1

theorem hazardUpdate_reserved {m use : HazardMask} (clr : HazardMask) (hm : m &&& ~~~allMask = 0)
    (hu : use &&& ~~~allMask = 0) : hazardUpdate m clr use &&& ~~~allMask = 0 :=
  or_reserved (and_reserved _ hm) hu

theorem tileBit_reserved (t : BitVec 3) : tileBit t &&& ~~~allMask = 0 := by
  revert t
  decide

/-- The use masks of the hazard table stay within the defined bits (R220). -/
theorem hzUse_reserved (c : Cmd) : hzUse c &&& ~~~allMask = 0 := by
  have tile := tileBit_reserved (tileOf c)
  have pipe : pipeBit &&& ~~~allMask = 0 := by decide
  have tmem : tmemBit0 &&& ~~~allMask = 0 := by decide
  unfold hzUse
  split
  · exact or_reserved (or_reserved pipe tile) tmem
  · exact or_reserved (or_reserved pipe tile) tmem
  · exact tile
  · exact tile
  · exact tile
  · exact pipe
  · exact BitVec.zero_and

/-! ### The commands the producer queues (40_ring_buffer.md R157, 42_encoder_autosync.md R211, R213) -/

/-- The syncs that `write` and the explicit sync operations emit (R213, R230). -/
def syncCommands : List Cmd := [syncTileCmd, syncLoadCmd, syncPipeCmd]

/-- A command of a bound, valid opcode of its size that `write` and `publish` do not refuse (R211). -/
structure Writable (s : State) (c : Cmd) : Prop where
  size : opSize s c.op = some c.size
  terminator : c.op ≠ 0x00#8
  jump : c.op ≠ 0x02#8
  syncFull : c.op ≠ 0x29#8

/-- What the opcode and size check of `write` passes (R210, R211). -/
theorem checkOpcode_ok {s : State} {c : Cmd} (h : checkOpcode s c = .ok ()) : Writable s c := by
  unfold checkOpcode at h
  split at h
  · cases h
  · next n known =>
    split at h
    · cases h
    · next valid =>
      split at h
      · cases h
      · next sized =>
        simp only [ringOwned, Bool.or_eq_true, decide_eq_true_eq, not_or] at valid
        obtain ⟨⟨⟨terminator, jump⟩, syncFull⟩, -⟩ := valid
        exact ⟨by rw [known, Decidable.not_not.mp sized], terminator, jump, syncFull⟩

theorem writable_of_syncCommands {c : Cmd} (h : c ∈ syncCommands) (s : State) : Writable s c := by
  have cases : c = syncTileCmd ∨ c = syncLoadCmd ∨ c = syncPipeCmd := by simpa [syncCommands] using h
  obtain rfl | rfl | rfl := cases
  all_goals exact ⟨(opSize_builtin (by decide)).trans (by decide), by decide, by decide, by decide⟩

/-- A list of micro-steps that are EMITs of writable commands. -/
def EmitsWritable (s : State) (p : List MicroStep) : Prop := ∀ m ∈ p, ∃ c clr use, m = .emit c clr use ∧ Writable s c

theorem EmitsWritable.append {s : State} {p q : List MicroStep} (hp : EmitsWritable s p) (hq : EmitsWritable s q) :
    EmitsWritable s (p ++ q) := by
  intro m inList
  exact (List.mem_append.mp inList).elim (hp m) (hq m)

theorem emitsWritable_singleton {s : State} {c : Cmd} (h : Writable s c) (clr use : HazardMask) :
    EmitsWritable s [.emit c clr use] := by
  intro m inList
  exact ⟨c, clr, use, List.mem_singleton.mp inList, h⟩

/-- One class's automatic sync queues at most its sync (R213). -/
theorem autoSync_queue {s : State} {sync : Cmd} (h : sync ∈ syncCommands) (enabled : Bool) (mask hit : HazardMask)
    {qa : List MicroStep × HazardMask} (queue : EmitsWritable s qa.1) :
    EmitsWritable s (autoSync enabled sync mask hit qa).1 := by
  unfold autoSync
  split
  · exact queue.append (emitsWritable_singleton (writable_of_syncCommands h s) mask 0)
  · exact queue

/-- One class's automatic sync only clears bits of AUTOSYNC (R213). -/
theorem autoSync_reserved {enabled : Bool} {sync : Cmd} {mask hit : HazardMask} {qa : List MicroStep × HazardMask}
    (h : qa.2 &&& ~~~allMask = 0) : (autoSync enabled sync mask hit qa).2 &&& ~~~allMask = 0 := by
  unfold autoSync
  split
  · exact and_reserved _ h
  · exact h

/-- The expansion of a write queues syncs and the command (R213). -/
theorem expandWrite_queue {s : State} {c : Cmd} (h : Writable s c) (cfg : BitVec 3) (autosync chg use : HazardMask) :
    EmitsWritable s (expandWrite cfg autosync c chg use).1 := by
  have nothing : EmitsWritable s [] := fun _ inList => absurd inList List.not_mem_nil
  exact (autoSync_queue (by simp [syncCommands]) _ _ _ (autoSync_queue (by simp [syncCommands]) _ _ _
    (autoSync_queue (by simp [syncCommands]) _ _ _ nothing))).append (emitsWritable_singleton h _ _)

/-- The expansion of a write keeps AUTOSYNC within the defined bits (R213). -/
theorem expandWrite_reserved {autosync use : HazardMask} (cfg : BitVec 3) (c : Cmd) (chg : HazardMask)
    (ha : autosync &&& ~~~allMask = 0) (hu : use &&& ~~~allMask = 0) :
    (expandWrite cfg autosync c chg use).2 &&& ~~~allMask = 0 :=
  hazardUpdate_reserved _ (autoSync_reserved (autoSync_reserved (autoSync_reserved ha))) hu

/-- The mask check lets only defined bits through (R212, R222). -/
theorem writeMasks_reserved {shape : Shape} {op : Byte} {use change : HazardMask}
    (h : maskRefused shape op use change = false) (c : Cmd) :
    (writeMasks shape c use change).2 &&& ~~~allMask = 0 := by
  have operands : (use ||| change) &&& ~~~allMask = 0 :=
    Decidable.not_not.mp (of_decide_eq_false (Bool.or_eq_false_iff.mp h).1)
  cases shape with
  | auto => exact hzUse_reserved c
  | _ => exact left_reserved_of_or operands

/-! ### Port operations (30_encoding.md R125, 40_ring_buffer.md R154, R158) -/

/-- R154: a write, a reservation or a fence runs after `start` only. -/
theorem started_of_ringOperation {op : PortOp} {lc : Lifecycle} (h : lifecycleFault op lc = none)
    (ring : ringOperation op = true) : lc = .started := by
  have allowed : admits lc op = true := by
    by_contra refused
    simp [lifecycleFault_eq, refused] at h
  cases lc with
  | uninit =>
    obtain rfl : op = .init := of_decide_eq_true allowed
    cases ring
  | ready =>
    have other : (!ringOperation op) = true := (Bool.and_eq_true_iff.mp allowed).2
    rw [ring] at other
    cases other
  | started => rfl

/-- R154: `register`, `bind` and `start` run between `init` and `start`. -/
theorem ready_of_lifecycle {op : PortOp} {lc : Lifecycle} (h : lifecycleFault op lc = none)
    (frozen : lifecycleFault op .started = some .afterStart) (early : lifecycleFault op .uninit = some .notInit) :
    lc = .ready := by
  cases lc with
  | uninit => rw [h] at early; cases early
  | ready => rfl
  | started => rw [h] at frozen; cases frozen

/-- The next states of an issue step with no fault (R149, R154, R158), `s` being the state with the operation taken. -/
inductive IssueOutcome (s : State) : State → Prop
  | inits {u v : State} (lc : s.lc = .uninit) (closed : s.resN = 0)
    (clear0 : ringWrite s .b0 0 (List.replicate (s.params.cap + 1) 0) = .ok u)
    (clear1 : ringWrite u .b1 0 (List.replicate (s.params.cap + 1) 0) = .ok v) : IssueOutcome s (initState s v.mem)
  | closes (lc : s.lc ≠ .uninit) (closed : s.resN = 0) : IssueOutcome s { s with pq := [.drain, .closeCommit] }
  | registers (id : Fin 16) (d : DescriptorArg) (lc : s.lc = .ready) (ok : descOk s.params d = true)
    (free : s.ovlValid[id] = false) : IssueOutcome s (claim s id d)
  | binds (id sel : Fin 16) (lc : s.lc = .ready) (clientId : 2 ≤ id) (clientSel : 4 ≤ sel)
    (valid : s.ovlValid[id] = true) : IssueOutcome s { s with selMap := s.selMap.set sel (some id) }
  | starts (lc : s.lc = .ready) : IssueOutcome s { s with lc := .started }
  | reserves (n : Nat) (lc : s.lc = .started) (fits : n ≤ s.params.maxCmd) :
    IssueOutcome s { s with resN := n, stage := List.replicate s.params.maxCmd none }
  | stores (k : Nat) (w : Word) : IssueOutcome s { s with stage := s.stage.set k (some w) }
  | publishes (c : Cmd) (lc : s.lc = .started) (size : c.size = s.resN) (writable : Writable s c) :
    IssueOutcome s { s with resN := 0, stage := List.replicate s.params.maxCmd none, pq := [.emit c 0 0] }
  | writes (p : List MicroStep) (a : HazardMask) (lc : s.lc = .started) (closed : s.resN = 0)
    (queue : EmitsWritable s p) (reserved : s.autosync &&& ~~~allMask = 0 → a &&& ~~~allMask = 0) :
    IssueOutcome s { s with pq := p, autosync := a }
  | fences (e : FenceEntry) (waits : List MicroStep) (lc : s.lc = .started) (closed : s.resN = 0)
    (kind : waits = [] ∨ waits = [.waitf (s.fenceIssued + 1)]) :
    IssueOutcome s { s with
      fenceQ := s.fenceQ ++ [e]
      fenceIssued := s.fenceIssued + 1
      autosync := 0
      pq := .emit syncFullCmd allMask 0 :: waits }
  | configures (r : Option Word) (cfg : BitVec 3) : IssueOutcome s { s with result := r, autosyncCfg := cfg }

theorem doInit_outcome {s t : State} (lc : s.lc = .uninit) (closed : s.resN = 0) (h : doInit s = .ok t) :
    IssueOutcome s t := by
  unfold doInit at h
  split at h
  · cases h
  · next u clear0 =>
    split at h
    · cases h
    · next v clear1 => exact Except.ok.inj h ▸ .inits lc closed clear0 clear1

theorem doRegister_outcome {s t : State} {d : DescriptorArg} {id : Option Word} (lc : s.lc = .ready)
    (h : doRegister s d id = .ok t) : IssueOutcome s t := by
  unfold doRegister at h
  split at h
  · cases h
  · next descriptor =>
    have ok : descOk s.params d = true := by simpa using descriptor
    dsimp only at h
    split at h
    · split at h
      · cases h
      · next i _ free =>
        have isFree : i ∈ clientIds.filter (fun i => !s.ovlValid[i]) := free ▸ List.mem_cons_self
        exact Except.ok.inj h ▸ .registers i d lc ok (by simpa using (List.mem_filter.mp isFree).2)
    · next w =>
      split at h
      · next inRange =>
        split at h
        · cases h
        · split at h
          · cases h
          · next isFree => exact Except.ok.inj h ▸ .registers ⟨w.toNat, inRange⟩ d lc ok (by simpa using isFree)
      · cases h

theorem doBind_outcome {s t : State} {id sel : Word} (lc : s.lc = .ready) (h : doBind s id sel = .ok t) :
    IssueOutcome s t := by
  unfold doBind at h
  split at h
  · next clientSel =>
    split at h
    · next clientId =>
      split at h
      · cases h
      · next registered =>
        split at h
        · cases h
        · exact Except.ok.inj h ▸ .binds ⟨id.toNat, clientId.2⟩ ⟨sel.toNat, clientSel.2⟩ lc clientId.1 clientSel.1
            (by simpa using registered)
    · cases h
  · cases h

theorem doReserve_outcome {s t : State} {n : Word} (lc : s.lc = .started) (h : doReserve s n = .ok t) :
    IssueOutcome s t := by
  unfold doReserve at h
  split at h
  · cases h
  · next fits => exact Except.ok.inj h ▸ .reserves n.toNat lc (Nat.le_of_not_lt fun tooMany => fits (.inr tooMany))

theorem doStore_outcome {s t : State} {k w : Word} (h : doStore s k w = .ok t) : IssueOutcome s t := by
  unfold doStore at h
  split at h
  · cases h
  · exact Except.ok.inj h ▸ .stores k.toNat w

theorem stagedWords_length (s : State) (k n : Nat) : (stagedWords s k n).length = n := by
  induction n generalizing k with
  | zero => rfl
  | succ n ih => exact congrArg (· + 1) (ih (k + 1))

theorem cmdOfWords_eq_some {ws : List Word} {c : Cmd} (h : cmdOfWords ws = some c) : ws = c.words := by
  cases ws with
  | nil => cases h
  | cons w ws => cases h; rfl

theorem doPublish_outcome {s t : State} (lc : s.lc = .started) (h : doPublish s = .ok t) : IssueOutcome s t := by
  unfold doPublish at h
  split at h
  · cases h
  · next c staged =>
    split at h
    · cases h
    · split at h
      · cases h
      · next checked =>
        have size : c.size = s.resN :=
          (congrArg List.length (cmdOfWords_eq_some staged)).symm.trans (stagedWords_length s 0 s.resN)
        exact Except.ok.inj h ▸ .publishes c lc size (checkOpcode_ok checked)

theorem doWrite_outcome {s t : State} {shape : Shape} {op : Byte} {a24 : BitVec 24} {args : List Word}
    {use change : HazardMask} (lc : s.lc = .started) (closed : s.resN = 0)
    (h : doWrite s shape op a24 args use change = .ok t) : IssueOutcome s t := by
  unfold doWrite at h
  dsimp only at h
  split at h
  · cases h
  · next checked =>
    split at h
    · cases h
    · next masks =>
      split at h
      · cases h
      · have writable := checkOpcode_ok checked
        have reserved := writeMasks_reserved (by simpa using masks) ⟨op ++ a24, args⟩
        exact Except.ok.inj h ▸ .writes _ _ lc closed (expandWrite_queue writable _ _ _ _)
          fun ha => expandWrite_reserved _ _ _ ha reserved

theorem doSync_outcome {s t : State} {sync : Cmd} {mask : HazardMask} (explicit : sync ∈ syncCommands)
    (lc : s.lc = .started) (closed : s.resN = 0) (h : doSync s sync mask = .ok t) : IssueOutcome s t :=
  Except.ok.inj h ▸ .writes _ _ lc closed (emitsWritable_singleton (writable_of_syncCommands explicit s) mask 0)
    (and_reserved _)

theorem doConfig_outcome {s t : State} {enable disable : Word} (h : doConfig s enable disable = .ok t) :
    IssueOutcome s t := by
  unfold doConfig at h
  split at h
  · cases h
  · exact Except.ok.inj h ▸ .configures _ _

/-- R149: what an issue step does when it raises nothing. -/
theorem issue_outcome {s t : State} {op : PortOp} (h : issue s op = .ok t) : IssueOutcome s t := by
  unfold issue at h
  split at h
  · cases h
  · next lifecycle =>
    split at h
    · cases h
    · next reservation =>
      have closed (outside : usesReservation op = false) : s.resN = 0 := by
        by_contra opened
        exact reservation ⟨opened, outside⟩
      have initialized (notInit : lifecycleFault op .uninit = some .notInit) : s.lc ≠ .uninit := fun uninit => by
        rw [uninit, notInit] at lifecycle
        cases lifecycle
      cases op with
      | init =>
        have lc : s.lc = .uninit := by
          cases before : s.lc with
          | uninit => rfl
          | ready => rw [before] at lifecycle; cases lifecycle
          | started => rw [before] at lifecycle; cases lifecycle
        exact doInit_outcome lc (closed rfl) h
      | close => exact Except.ok.inj h ▸ .closes (initialized rfl) (closed rfl)
      | register d id => exact doRegister_outcome (ready_of_lifecycle lifecycle rfl rfl) h
      | bind id sel => exact doBind_outcome (ready_of_lifecycle lifecycle rfl rfl) h
      | start => exact Except.ok.inj h ▸ .starts (ready_of_lifecycle lifecycle rfl rfl)
      | reserve n => exact doReserve_outcome (started_of_ringOperation lifecycle rfl) h
      | store k w => exact doStore_outcome h
      | publish => exact doPublish_outcome (started_of_ringOperation lifecycle rfl) h
      | syncPipe | syncTile | syncLoad =>
        exact doSync_outcome (by simp [syncCommands]) (started_of_ringOperation lifecycle rfl) (closed rfl) h
      | fence cb arg =>
        exact Except.ok.inj h ▸ .fences (.call ⟨cb, arg⟩) [] (started_of_ringOperation lifecycle rfl) (closed rfl)
          (.inl rfl)
      | wait =>
        exact Except.ok.inj h ▸ .fences .noCb _ (started_of_ringOperation lifecycle rfl) (closed rfl) (.inr rfl)
      | config enable disable => exact doConfig_outcome h
      | _ => exact doWrite_outcome (started_of_ringOperation lifecycle rfl) (closed rfl) h

/-! ### The agents' steps (00_scope.md R5) -/

/-- The command that PRODUCER emits next: that of an EMIT at the head of PQ. -/
def emitted : List MicroStep → List Cmd
  | .emit c _ _ :: _ => [c]
  | _ => []

/-- The next states of a PRODUCER step with no fault (R149): nothing to do or a false guard, one of the five
micro-steps, or the issue of the host's next operation. -/
inductive ProducerOutcome (s : State) : State → Prop
  | rests (noEmit : emitted s.pq = []) : ProducerOutcome s s
  | emits {c : Cmd} {clr use : HazardMask} {rest : List MicroStep} {t : State} (head : s.pq = .emit c clr use :: rest)
    (emit : emitCommand { s with pq := rest } c = .ok t) : ProducerOutcome s t
  | switches {rest : List MicroStep} {t : State} (head : s.pq = .switch :: rest) (guard : s.cbuf = s.active)
    (switch : switchBuffer { s with pq := rest } = .ok t) : ProducerOutcome s t
  | passes {m : MicroStep} {rest : List MicroStep} (head : s.pq = m :: rest)
    (guard : (∃ k, m = .waitf k) ∨ m = .drain ∧ drained s = true) : ProducerOutcome s { s with pq := rest }
  | commits {rest : List MicroStep} (head : s.pq = .closeCommit :: rest) : ProducerOutcome s (closeCommit s)
  | issues {op : PortOp} {ops : List PortOp} {t : State} (empty : s.pq = []) (host : s.hostOps = op :: ops)
    (outcome : IssueOutcome { s with hostOps := ops } t) : ProducerOutcome s t

theorem producer_outcome {s t : State} (h : producerStep s = .ok t) : ProducerOutcome s t := by
  unfold producerStep at h
  split at h
  · next m rest head =>
    cases m with
    | emit c clr use => exact .emits head h
    | switch =>
      simp only [microStep] at h
      split at h
      · next guard => exact .switches head guard h
      · exact Except.ok.inj h ▸ .rests (by rw [head]; rfl)
    | waitf k =>
      simp only [microStep] at h
      split at h
      · exact Except.ok.inj h ▸ .passes head (.inl ⟨k, rfl⟩)
      · exact Except.ok.inj h ▸ .rests (by rw [head]; rfl)
    | drain =>
      simp only [microStep] at h
      split at h
      · next guard => exact Except.ok.inj h ▸ .passes head (.inr ⟨rfl, guard⟩)
      · exact Except.ok.inj h ▸ .rests (by rw [head]; rfl)
    | closeCommit => exact Except.ok.inj h ▸ .commits head
  · next empty =>
    split at h
    · exact Except.ok.inj h ▸ .rests (by rw [empty]; rfl)
    · next op ops host => exact .issues empty host (issue_outcome h)

/-- The next states of a RASTERIZER step with no fault (60_exceptions.md R420, R421). -/
inductive RasterizerOutcome (s : State) : State → Prop
  | rests : RasterizerOutcome s s
  | completes {c : Cmd} {q : List Cmd} (head : s.rzQ = c :: q) : RasterizerOutcome s { s with
      rzInuse := hazardUpdate s.rzInuse (hzClear c) (hzUse c)
      rzQ := q
      rzLog := s.rzLog ++ [c]
      irqPending := if c.op = 0x29 then s.irqPending + 1 else s.irqPending }

theorem rasterizer_outcome {s t : State} (h : rasterizerStep s = .ok t) : RasterizerOutcome s t := by
  unfold rasterizerStep at h
  split at h
  · exact Except.ok.inj h ▸ .rests
  · next c q head =>
    split at h
    · cases h
    · exact Except.ok.inj h ▸ .completes head

/-- The next states of a FENCE_IRQ step with no fault (60_exceptions.md R425). -/
inductive FenceOutcome (s : State) : State → Prop
  | rests : FenceOutcome s s
  | services {n : Nat} {e : FenceEntry} {q : List FenceEntry} (pending : s.irqPending = n + 1)
    (head : s.fenceQ = e :: q) :
    FenceOutcome s { s with
      irqPending := n, fenceQ := q, fenceDone := s.fenceDone + 1, cbLog := s.cbLog ++ invoked e }

theorem fence_outcome {s t : State} (h : fenceStep s = .ok t) : FenceOutcome s t := by
  unfold fenceStep at h
  split at h
  · exact Except.ok.inj h ▸ .rests
  · next n pending =>
    split at h
    · cases h
    · next e q head => exact Except.ok.inj h ▸ .services pending head

/-- The next states of a step: power-on reset, the fault of an agent's step (60_exceptions.md R401), or the step of the
agent whose turn it is on the state with the turn taken. -/
inductive StepOutcome (s : State) : State → Prop
  | powerOn : StepOutcome s (powerOnReset (takeTurn s))
  | raised (a : Agent) (code : FaultCode) (info : List Word) : StepOutcome s (raise (takeTurn s) a code info)
  | producer {t : State} (outcome : ProducerOutcome (takeTurn s) t) : StepOutcome s t
  | idles (idle : s.cstate = .idle) : StepOutcome s (takeTurn s)
  | consumer {t : State} {bs rest : List Byte} {i : Instr} (run : s.cstate = .run)
    (fetched : fetch (takeTurn s) = .ok bs) (decoded : decode (decodeSize (takeTurn s)) bs = .ok (i, rest))
    (executed : exec i (takeTurn s) = .next t) : StepOutcome s t
  | rasterizer {t : State} (outcome : RasterizerOutcome (takeTurn s) t) : StepOutcome s t
  | fenceIrq {t : State} (outcome : FenceOutcome (takeTurn s) t) : StepOutcome s t

theorem consumerStep_outcome {s t : State} (h : consumerStep (takeTurn s) = .next t) : StepOutcome s t := by
  unfold consumerStep at h
  split at h
  · next idle =>
    cases h
    exact .idles (by simpa using idle)
  · next run =>
    split at h
    · obtain ok | ⟨code, info, -, rfl⟩ := settle_next h
      · cases ok
      · exact .raised .consumer code info
    · next bs fetched =>
      split at h
      · obtain ok | ⟨code, info, -, rfl⟩ := settle_next h
        · cases ok
        · exact .raised .consumer code info
      · next i rest decoded => exact .consumer (by simpa using run) fetched decoded h

theorem step_outcome {s t : State} (h : step s = .next t) : StepOutcome s t := by
  cases turn : nextTurn s with
  | powerOn =>
    rw [step_powerOn turn] at h
    cases h
    exact .powerOn
  | agent a =>
    cases halted : s.fault with
    | some r =>
      rw [step_halted turn halted] at h
      cases h
    | none =>
      cases a with
      | producer =>
        rw [step_producer ⟨turn, halted⟩] at h
        obtain ok | ⟨code, info, -, rfl⟩ := settle_next h
        · exact .producer (producer_outcome ok)
        · exact .raised .producer code info
      | consumer =>
        rw [step_consumer ⟨turn, halted⟩] at h
        exact consumerStep_outcome h
      | rasterizer =>
        rw [step_rasterizer ⟨turn, halted⟩] at h
        obtain ok | ⟨code, info, -, rfl⟩ := settle_next h
        · exact .rasterizer (rasterizer_outcome ok)
        · exact .raised .rasterizer code info
      | fenceIrq =>
        rw [step_fenceIrq ⟨turn, halted⟩] at h
        obtain ok | ⟨code, info, -, rfl⟩ := settle_next h
        · exact .fenceIrq (fence_outcome ok)
        · exact .raised .fenceIrq code info

end Sys2Proof.Proofs
end

section
/-! Every step keeps the invariants of the state (10_state.md, 40_ring_buffer.md R162, 41_overlay_registry.md R190 to
R194): one lemma per outcome of a step, each naming only the clauses that the outcome can touch. -/
namespace Sys2Proof.Proofs

open Sys2Proof Sys2Proof.Machine

/-! ### Steps that write no element of the invariant -/

theorem stateInv_takeTurn {s : State} (h : StateInv s) : StateInv (takeTurn s) := by
  unfold takeTurn
  split <;> exact { h with }

theorem stateInv_raise {s : State} (h : StateInv s) (a : Agent) (code : FaultCode) (info : List Word) :
    StateInv (raise s a code info) := by
  unfold raise
  split
  · exact { h with }
  · exact h

/-- R60: the elements a reset gives their reset values, whatever the model's inputs and the logs are. -/
theorem stateInv_reset {s : State} (h : StateInv s) : StateInv (powerOnReset s) :=
  { resetWith_stateInv s.params h.params with }

theorem stateInv_closeCommit {s : State} (h : StateInv s) : StateInv (closeCommit s) :=
  { resetWith_stateInv s.params h.params with memory := h.memory }

/-! ### The consumer -/

/-- A command keeps the invariants: it writes no entry 0 of LOOKUP (R46) and stalls before RZ_Q overflows (R54). -/
theorem stateInv_exec {i : Instr} {s t : State} (h : StateInv s) (run : s.cstate = .run)
    (executed : exec i s = .next t) : StateInv t := by
  have initialized : s.lc ≠ .uninit := fun uninit => by
    have idle := (h.uninit uninit).2
    rw [run] at idle
    cases idle
  cases exec_outcome executed with
  | raised code info => exact stateInv_raise h .consumer code info
  | committed id n out u external extent handled fits =>
    obtain ⟨frame, entry0⟩ := handlerOf_writes handled
    rw [frame]
    exact { h with
      lookup := entry0.trans h.lookup
      rzQ := by simpa using fits }
  | paused => exact { h with uninit := fun uninit => absurd uninit initialized }
  | _ => exact { h with }

/-! ### The rasterizer and the fences -/

theorem stateInv_rasterizer {s t : State} (h : StateInv s) (outcome : RasterizerOutcome s t) : StateInv t := by
  cases outcome with
  | rests => exact h
  | @completes c q head =>
    have bound := h.rzQ
    rw [head, List.length_cons] at bound
    exact { h with
      rzInuse := hazardUpdate_reserved _ h.rzInuse (hzUse_reserved c)
      rzQ := Nat.le_of_succ_le bound }

theorem stateInv_fenceIrq {s t : State} (h : StateInv s) (outcome : FenceOutcome s t) : StateInv t := by
  cases outcome with
  | rests => exact h
  | services => exact { h with }

/-! ### The producer -/

/-- A micro-step is queued only with no open reservation, after `init` (40_ring_buffer.md R158). -/
theorem resN_eq_zero_of_pq {s : State} (h : StateInv s) (queued : s.pq ≠ []) : s.resN = 0 :=
  Decidable.not_not.mp fun opened => queued (h.reservation opened)

theorem initialized_of_pq {s : State} (h : StateInv s) (queued : s.pq ≠ []) : s.lc ≠ .uninit :=
  fun uninit => queued (h.uninit uninit).1

/-- The clauses on PQ hold of any PQ once no reservation is open and the block is initialized. -/
theorem stateInv_setPq {s : State} (h : StateInv s) (closed : s.resN = 0) (initialized : s.lc ≠ .uninit)
    (p : List MicroStep) : StateInv { s with pq := p } :=
  { h with
    reservation := fun opened => absurd closed opened
    uninit := fun uninit => absurd uninit initialized }

/-- EMIT keeps CURSOR within CAP, and past SENTINEL only with a switch pending (R162). -/
theorem stateInv_emit {s t : State} {c : Cmd} (h : StateInv s) (closed : s.resN = 0) (initialized : s.lc ≠ .uninit)
    (emit : emitCommand s c = .ok t) : StateInv t := by
  obtain ⟨fits, buffer, rfl⟩ := emitCommand_ok emit
  exact { h with
    memory := by
      have inside := of_decide_eq_true buffer
      refine memWf_memWriteWords h.memory ?_
      simp only [ringAddr, Cmd.words, Cmd.size, List.length_append, List.length_cons, List.length_nil] at inside fits ⊢
      omega
    cursor := fits
    sentinel := fun noSwitch => by simpa using (Bool.or_eq_false_iff.mp noSwitch).2
    reservation := fun opened => absurd closed opened
    uninit := fun uninit => absurd uninit initialized }

/-- SWITCH moves CURSOR to word 0 (40_ring_buffer.md R165). -/
theorem stateInv_switch {s t : State} (h : StateInv s) (initialized : s.lc ≠ .uninit)
    (switch : switchBuffer s = .ok t) : StateInv t := by
  obtain ⟨fits, buffer, otherBuffer, rfl⟩ := switchBuffer_ok switch
  have inside := of_decide_eq_true buffer
  have otherInside := of_decide_eq_true otherBuffer
  exact { h with
    memory := by
      refine memWf_memWriteWords (memWf_memWriteWords h.memory ?_) ?_
      all_goals
        simp only [ringAddr, List.length_replicate, List.length_cons, List.length_nil] at inside otherInside ⊢
        omega
    cursor := Nat.zero_le _
    sentinel := fun _ => Nat.zero_le _
    uninit := fun uninit => absurd uninit initialized }

/-- `init` binds selectors 0 to 3, to overlays 0 and 1, and no other (70_reset_and_hazards.md R451). -/
theorem initState_selMap (s : State) (m : Memory) (sel id : Fin 16) (isBound : (initState s m).selMap[sel] = some id) :
    sel < 4 ∧ (id = 0 ∨ id = 1) := by
  have table : ∀ sel id : Fin 16, (initState State.reset []).selMap[sel] = some id → sel < 4 ∧ (id = 0 ∨ id = 1) := by
    decide
  exact table sel id isBound

/-- `init` registers overlays 0 and 1, and no other (R451). -/
theorem initState_ovlValid (s : State) (m : Memory) (id : Fin 16) :
    (initState s m).ovlValid[id] = true ↔ id = 0 ∨ id = 1 := by
  have table : ∀ id : Fin 16, (initState State.reset []).ovlValid[id] = true ↔ id = 0 ∨ id = 1 := by decide
  exact table id

theorem stateInv_init {s : State} (params : s.params.valid = true) {m : Memory} (memory : memWf m = true) :
    StateInv (initState s m) where
  params := params
  memory := memory
  autosync := BitVec.zero_and
  rzInuse := BitVec.zero_and
  lookup := resetWith_lookup s.params 0
  rzQ := Nat.zero_le _
  cursor := Nat.zero_le _
  sentinel _ := Nat.zero_le _
  resN := Nat.zero_le _
  stage := List.length_replicate
  reservation _ := rfl
  uninit uninit := nomatch uninit
  builtins _ := ⟨rfl, rfl, rfl, rfl, rfl, rfl, rfl, rfl⟩
  bound sel id isBound := (initState_ovlValid s m id).mpr (initState_selMap s m sel id isBound).2
  clients sel id client isBound := absurd (initState_selMap s m sel id isBound).1 (Fin.not_lt.mpr client)
  descriptors id client isValid := by
    obtain rfl | rfl := (initState_ovlValid s m id).mp isValid <;> exact absurd client (by decide)

/-- A descriptor that passes `desc_ok` is the descriptor of a client overlay (41_overlay_registry.md R190). -/
theorem clientDescOk_descriptorOf {p : Params} {d : DescriptorArg} (h : descOk p d = true) :
    clientDescOk p (descriptorOf d) = true := by
  unfold descOk at h
  simp only [Bool.and_eq_true] at h
  obtain ⟨⟨-, sizes⟩, meanings⟩ := h
  exact Bool.and_eq_true_iff.mpr ⟨sizes, meanings⟩

/-- Writing one entry of a table of the registry leaves the others. -/
theorem getElem_set_fin {α : Type} (v : Vector α 16) (i j : Fin 16) (x : α) :
    (v.set i x)[j] = if j = i then x else v[j] := by
  simp [Vector.getElem_set, Fin.ext_iff, eq_comm]

/-- `register` claims the id of a client overlay, as overlays 0 and 1 are registered already (R190, R193). -/
theorem stateInv_register {s : State} (h : StateInv s) {id : Fin 16} {d : DescriptorArg} (lc : s.lc = .ready)
    (ok : descOk s.params d = true) (free : s.ovlValid[id] = false) : StateInv (claim s id d) := by
  obtain ⟨valid0, valid1, desc0, desc1, selectors⟩ := h.builtins (by rw [lc]; decide)
  have ne0 : (0 : Fin 16) ≠ id := fun same => by
    subst same
    exact Bool.false_ne_true (free.symm.trans valid0)
  have ne1 : (1 : Fin 16) ≠ id := fun same => by
    subst same
    exact Bool.false_ne_true (free.symm.trans valid1)
  have otherValid (j : Fin 16) : (claim s id d).ovlValid[j] = if j = id then true else s.ovlValid[j] :=
    getElem_set_fin _ _ _ _
  have otherDesc (j : Fin 16) : (claim s id d).ovlDesc[j] = if j = id then descriptorOf d else s.ovlDesc[j] :=
    getElem_set_fin _ _ _ _
  exact { h with
    builtins := fun _ => ⟨(otherValid 0).trans ((if_neg ne0).trans valid0),
      (otherValid 1).trans ((if_neg ne1).trans valid1), (otherDesc 0).trans ((if_neg ne0).trans desc0),
      (otherDesc 1).trans ((if_neg ne1).trans desc1), selectors⟩
    bound := fun sel j isBound => by
      rw [otherValid]
      split
      · rfl
      · exact h.bound sel j isBound
    descriptors := fun j client isValid => by
      rw [otherDesc]
      split
      · exact clientDescOk_descriptorOf ok
      · next other => exact h.descriptors j client ((if_neg other).symm.trans ((otherValid j).symm.trans isValid)) }

/-- `bind` binds a selector of 4 to 15 to a registered client overlay (R192). -/
theorem stateInv_bind {s : State} (h : StateInv s) {id sel : Fin 16} (lc : s.lc = .ready) (clientId : 2 ≤ id)
    (clientSel : 4 ≤ sel) (valid : s.ovlValid[id] = true) :
    StateInv { s with selMap := s.selMap.set sel (some id) } := by
  obtain ⟨valid0, valid1, desc0, desc1, sel0, sel1, sel2, sel3⟩ := h.builtins (by rw [lc]; decide)
  have entry (j : Fin 16) : (s.selMap.set sel (some id))[j] = if j = sel then some id else s.selMap[j] :=
    getElem_set_fin _ _ _ _
  have builtinSel {j : Fin 16} (builtin : j < 4) : (s.selMap.set sel (some id))[j] = s.selMap[j] :=
    (entry j).trans (if_neg fun (same : j = sel) => absurd clientSel (Fin.not_le.mpr (same ▸ builtin)))
  exact { h with
    builtins := fun _ => ⟨valid0, valid1, desc0, desc1, (builtinSel (j := 0) (by decide)).trans sel0,
      (builtinSel (j := 1) (by decide)).trans sel1, (builtinSel (j := 2) (by decide)).trans sel2,
      (builtinSel (j := 3) (by decide)).trans sel3⟩
    bound := fun j k isBound => by
      rw [entry] at isBound
      split at isBound
      · exact Option.some.inj isBound ▸ valid
      · exact h.bound j k isBound
    clients := fun j k client isBound => by
      rw [entry] at isBound
      split at isBound
      · exact Option.some.inj isBound ▸ clientId
      · exact h.clients j k client isBound }

theorem stateInv_issue {s t : State} (h : StateInv s) (empty : s.pq = []) (outcome : IssueOutcome s t) :
    StateInv t := by
  have initialized (lc : s.lc = .started) : s.lc ≠ .uninit := by rw [lc]; decide
  cases outcome with
  | inits lc closed clear0 clear1 =>
    exact stateInv_init h.params (memWf_ringWrite clear1 (memWf_ringWrite clear0 h.memory))
  | closes lc closed => exact stateInv_setPq h closed lc _
  | registers id d lc ok free => exact stateInv_register h lc ok free
  | binds id sel lc clientId clientSel valid => exact stateInv_bind h lc clientId clientSel valid
  | starts lc =>
    exact { h with
      uninit := fun uninit => nomatch uninit
      builtins := fun _ => h.builtins (by rw [lc]; decide) }
  | reserves n lc fits => exact { h with resN := fits, stage := List.length_replicate, reservation := fun _ => empty }
  | stores k w => exact { h with stage := List.length_set.trans h.stage }
  | publishes c lc size writable =>
    exact { h with
      resN := Nat.zero_le _
      stage := List.length_replicate
      reservation := fun opened => absurd rfl opened
      uninit := fun uninit => absurd uninit (initialized lc) }
  | writes p a lc closed queue reserved =>
    exact { stateInv_setPq h closed (initialized lc) p with autosync := reserved h.autosync }
  | fences e waits lc closed kind =>
    exact { stateInv_setPq h closed (initialized lc) (.emit syncFullCmd allMask 0 :: waits) with
      autosync := BitVec.zero_and }
  | configures => exact { h with }

theorem stateInv_producer {s t : State} (h : StateInv s) (outcome : ProducerOutcome s t) : StateInv t := by
  have closed {m : MicroStep} {rest : List MicroStep} (head : s.pq = m :: rest) : s.resN = 0 :=
    resN_eq_zero_of_pq h (by simp [head])
  have initialized {m : MicroStep} {rest : List MicroStep} (head : s.pq = m :: rest) : s.lc ≠ .uninit :=
    initialized_of_pq h (by simp [head])
  have popped {m : MicroStep} {rest : List MicroStep} (head : s.pq = m :: rest) : StateInv { s with pq := rest } :=
    stateInv_setPq h (closed head) (initialized head) rest
  cases outcome with
  | rests => exact h
  | emits head emit => exact stateInv_emit (popped head) (closed head) (initialized head) emit
  | switches head guard switch => exact stateInv_switch (popped head) (initialized head) switch
  | passes head => exact popped head
  | commits => exact stateInv_closeCommit h
  | @issues op ops t empty host outcome =>
    have taken : StateInv { s with hostOps := ops } := { h with }
    exact stateInv_issue taken empty outcome

theorem stateInv_step {s t : State} (h : StateInv s) (next : step s = .next t) : StateInv t := by
  have turn := stateInv_takeTurn h
  cases step_outcome next with
  | powerOn => exact stateInv_reset turn
  | raised a code info => exact stateInv_raise turn a code info
  | producer outcome => exact stateInv_producer turn outcome
  | idles => exact turn
  | consumer run fetched decoded executed => exact stateInv_exec turn (by simpa using run) executed
  | rasterizer outcome => exact stateInv_rasterizer turn outcome
  | fenceIrq outcome => exact stateInv_fenceIrq turn outcome

/-- Settles O51, outcome by outcome of a step. -/
theorem stateInvariantIsKept : Obligations.StateInvariantIsKept := fun _ _ h next => stateInv_step h next

end Sys2Proof.Proofs
end

section
/-! What the consumer reads at its position (43_consumer_dispatch.md R260): the words it fetches are those of the
command that stands there, and the command it executes has their opcode. -/
namespace Sys2Proof.Proofs

open Sys2Proof Sys2Proof.Machine

/-! ### The opcode of a decoded command (30_encoding.md R112 to R117) -/

/-- An opcode is its selector and its function (R112). -/
theorem append_fn {op : Byte} {sel : BitVec 4} (h : op.toNat / 16 = sel.toNat) : sel ++ field 0 4 op = op := by
  apply BitVec.eq_of_toNat_eq
  simp only [field, BitVec.toNat_append, BitVec.extractLsb'_toNat, Nat.shiftRight_zero]
  rw [← h, ← Nat.shiftLeft_add_eq_or_of_lt (Nat.mod_lt _ (by decide)), Nat.shiftLeft_eq]
  omega

theorem clientInstr_opcode {op : Byte} {a24 : BitVec 24} {args : List Word} {i : Instr}
    (h : clientInstr (op.toNat / 16) (field 0 4 op) a24 args = some i) : i.opcode = op := by
  unfold clientInstr at h
  split at h
  all_goals
    next sel =>
    cases h <;> exact append_fn sel

theorem instrOf_opcode {op : Byte} {a24 : BitVec 24} {args : List Word} {i : Instr}
    (h : instrOf op a24 args = some i) : i.opcode = op := by
  unfold instrOf at h
  split at h
  case h_36 => exact clientInstr_opcode h
  all_goals
    next row =>
    simp only [withNone, withOne, withTwo, withThree] at h
    split at h
    · cases h
      exact (BitVec.eq_of_toNat_eq row).symm
    · cases h

/-- The command decoded from the words of a command has its opcode. -/
theorem decode_opcode {size : Byte → Option Nat} {c : Cmd} {i : Instr} {rest : List Byte}
    (h : decode size (bytesOfWords c.words) = .ok (i, rest)) : i.opcode = c.op := by
  unfold decode at h
  rw [show takeWord (bytesOfWords c.words) = some (c.w0, bytesOfWords c.rest) from takeWord_bytesOfWord _ _] at h
  dsimp only at h
  split at h
  · cases h
  · cases h
  · split at h
    · cases h
    · split at h
      · cases h
      · next i' known =>
        cases h
        exact instrOf_opcode known

/-! ### The words fetched (43_consumer_dispatch.md R260) -/

/-- The size the consumer takes is the opcode's (R261, R266). -/
theorem commandSize_ok {s : State} {op : Byte} {k n : Nat} (size : opSize s op = some k)
    (h : commandSize s op = .ok n) : n = k := by
  unfold commandSize at h
  split at h
  · next internal =>
    have builtin : opSize s op = some (builtinSize op) := opSize_builtin (by rw [internal]; decide)
    split at h
    · cases h
    · exact (Except.ok.inj h).symm.trans (Option.some.inj (builtin.symm.trans size))
  · split at h
    · cases h
    · next id m extent =>
      obtain ⟨-, sized, -, -⟩ := overlayExtent_ok extent
      rw [← Except.ok.inj h, sized, size]
      rfl

/-- With the words of a command of its opcode's size at the consumer's position, the consumer fetches these words. -/
theorem fetch_words {s : State} {c : Cmd} {bs : List Byte} (size : opSize s c.op = some c.size)
    (words : ringReads s s.cbuf s.rpos c.size = .ok c.words) (fetched : fetch s = .ok bs) :
    bs = bytesOfWords c.words := by
  obtain ⟨first, -⟩ := ringReads_cons.mp words
  unfold fetch at fetched
  rw [first] at fetched
  dsimp only at fetched
  split at fetched
  · cases fetched
  · next n sized =>
    obtain rfl : n = c.size := commandSize_ok size sized
    rw [words] at fetched
    exact (Except.ok.inj fetched).symm

/-- The consumer executes a command of the opcode at its position. -/
theorem fetched_opcode {s : State} {c : Cmd} {bs rest : List Byte} {i : Instr} (size : opSize s c.op = some c.size)
    (words : ringReads s s.cbuf s.rpos c.size = .ok c.words) (fetched : fetch s = .ok bs)
    (decoded : decode (decodeSize s) bs = .ok (i, rest)) : i.opcode = c.op := by
  rw [fetch_words size words fetched] at decoded
  exact decode_opcode decoded

end Sys2Proof.Proofs
end

section
/-! Ring memory (20_memory.md R82): what a write to one buffer leaves, read back from both. -/
namespace Sys2Proof.Proofs

open Sys2Proof Sys2Proof.Machine

theorem ringRead_eq_ok {s : State} {b : RingBuf} {i : Nat} {w : Word} (inRing : i ≤ s.params.cap)
    (fits : ringFits s.params b = true) (word : memReadWord s.mem (ringAddr s.params b i) = some w) :
    ringRead s b i = .ok w := by
  simp [ringRead, Nat.not_lt.mpr inRing, fits, word]

/-- Two states with the same words at a run of indices read the same run. -/
theorem ringReads_of_ringRead {s t : State} {b : RingBuf} {i n : Nat}
    (same : ∀ k, i ≤ k → k < i + n → ringRead t b k = ringRead s b k) : ringReads t b i n = ringReads s b i n := by
  induction n generalizing i with
  | zero => rfl
  | succ n ih =>
    simp only [ringReads]
    rw [same i (Nat.le_refl i) (by omega), ih fun k low high => same k (by omega) (by omega)]

/-- Two buffers of valid parameters share no byte (00_scope.md R10). -/
theorem ringAddr_apart {p : Params} (valid : p.valid = true) (b : RingBuf) :
    ringAddr p b (p.cap + 1) ≤ ringAddr p b.other 0 ∨ ringAddr p b.other (p.cap + 1) ≤ ringAddr p b 0 := by
  simp only [Params.valid, Bool.and_eq_true, Bool.or_eq_true, decide_eq_true_eq] at valid
  cases b <;> simp only [ringAddr, bufBase, RingBuf.other] <;> omega

section Write
/-! `t` is `s` after a write of the words `ws` to buffer `b` from index `j` on. -/
variable {s t : State} {b : RingBuf} {j : Nat} {ws : List Word}

/-- A word whose bytes the write does not touch reads as before. -/
theorem ringRead_write_apart (params : t.params = s.params)
    (mem : t.mem = memWriteWords s.mem (ringAddr s.params b j) ws) {b' : RingBuf} {i : Nat}
    (apart : ringAddr s.params b' i + 4 ≤ ringAddr s.params b j
      ∨ ringAddr s.params b j + 4 * ws.length ≤ ringAddr s.params b' i) : ringRead t b' i = ringRead s b' i := by
  have word : memReadWord t.mem (ringAddr s.params b' i) = memReadWord s.mem (ringAddr s.params b' i) := by
    rw [mem]
    exact memReadWord_congr fun x low high => memRead_memWriteWords_other s.mem (by omega)
  simp only [ringRead, params, word]

/-- The words of the same buffer before and after those written read as before. -/
theorem ringRead_write_outside (params : t.params = s.params)
    (mem : t.mem = memWriteWords s.mem (ringAddr s.params b j) ws) {i : Nat} (outside : i < j ∨ j + ws.length ≤ i) :
    ringRead t b i = ringRead s b i :=
  ringRead_write_apart params mem (by simp only [ringAddr]; omega)

/-- The words of the other buffer read as before. -/
theorem ringRead_write_other (valid : s.params.valid = true) (params : t.params = s.params)
    (mem : t.mem = memWriteWords s.mem (ringAddr s.params b j) ws) (fits : j + ws.length ≤ s.params.cap + 1) (i : Nat) :
    ringRead t b.other i = ringRead s b.other i := by
  by_cases inRing : i ≤ s.params.cap
  · refine ringRead_write_apart params mem ?_
    have apart := ringAddr_apart valid b
    simp only [ringAddr] at apart ⊢
    omega
  · simp [ringRead, params, Nat.not_le.mp inRing]

/-- Each word written is read back. -/
theorem ringRead_write (valid : s.params.valid = true) (params : t.params = s.params)
    (mem : t.mem = memWriteWords s.mem (ringAddr s.params b j) ws) (fits : j + ws.length ≤ s.params.cap + 1) {k : Nat}
    {w : Word} (word : ws[k]? = some w) : ringRead t b (j + k) = .ok w := by
  obtain ⟨inList, -⟩ := List.getElem?_eq_some_iff.mp word
  refine ringRead_eq_ok (by rw [params]; omega) (ringFits_of_valid (by rw [params]; exact valid) b) ?_
  have address : ringAddr s.params b (j + k) = ringAddr s.params b j + 4 * k := by simp only [ringAddr]; omega
  rw [mem, params, address, memReadWord_memWriteWords _ inList, word]

end Write

/-- A run of indices that holds the words of a list reads as the list. -/
theorem ringReads_of_getElem {s : State} {b : RingBuf} {i : Nat} {ws : List Word}
    (words : ∀ k w, ws[k]? = some w → ringRead s b (i + k) = .ok w) : ringReads s b i ws.length = .ok ws := by
  induction ws generalizing i with
  | nil => rfl
  | cons w ws ih =>
    refine ringReads_cons.mpr ⟨words 0 w rfl, ih fun k v word => ?_⟩
    rw [Nat.add_assoc, Nat.add_comm 1]
    exact words (k + 1) v word

theorem eq_other_of_ne {b b' : RingBuf} (h : b ≠ b') : b = b'.other := by
  revert h
  cases b <;> cases b' <;> decide

theorem other_other (b : RingBuf) : b.other.other = b := by
  cases b <;> rfl

theorem other_ne (b : RingBuf) : b ≠ b.other := by
  cases b <;> decide

end Sys2Proof.Proofs
end

section
/-! The ring invariant (40_ring_buffer.md R170) in two parts, kept by different steps: what the ring holds between the
consumer's position and the cursor, and what the producer has still queued. -/
namespace Sys2Proof.Proofs

open Sys2Proof Sys2Proof.Machine

/-! ### The two parts of the ring invariant -/

/-- The clauses of RingInv about the ring and its positions. -/
structure RingContents (s : State) (q : List Cmd) : Prop where
  notStarted : s.lc ≠ .started → q = [] ∧ s.cstate = .idle
  terminator : s.lc ≠ .uninit → ringRead s s.active s.cursor = .ok 0
  here : s.lc ≠ .uninit → s.cbuf = s.active →
    s.rpos + (flatWords q).length = s.cursor
      ∧ ringReads s s.active s.rpos (flatWords q).length = .ok (flatWords q)
  behind : s.lc ≠ .uninit → s.cbuf ≠ s.active →
    ∃ q1 q2, q = q1 ++ q2
      ∧ ringReads s s.cbuf s.rpos ((flatWords q1).length + 1) = .ok (flatWords q1 ++ [jumpWord s.params s.active])
      ∧ ringReads s s.active 0 (flatWords q2).length = .ok (flatWords q2)
      ∧ (flatWords q2).length = s.cursor
  commands : ∀ c ∈ q, Emittable s c
  idle : s.lc ≠ .uninit → s.cstate = .idle → s.sig = false ∧ s.cbuf = s.active ∧ q = []

/-- The clauses of RingInv about PQ. -/
structure QueueShape (s : State) : Prop where
  notStarted : s.lc ≠ .started → ∀ m ∈ s.pq, m = .drain ∨ m = .closeCommit
  queued : ∀ c ∈ emitsOf s.pq, Emittable s c
  switch : s.switchPending = true ↔ s.pq.head? = some .switch
  oneSwitch : .switch ∉ s.pq.tail
  close : .closeCommit ∈ s.pq → s.pq = [.drain, .closeCommit] ∨ (s.pq = [.closeCommit] ∧ drained s = true)

theorem ringInv_iff {s : State} {q : List Cmd} : RingInv s q ↔ RingContents s q ∧ QueueShape s where
  mp h :=
    ⟨{ notStarted := fun lc => ⟨(h.notStarted lc).1, (h.notStarted lc).2.1⟩
       terminator := h.terminator, here := h.here, behind := h.behind, commands := h.commands, idle := h.idle },
      { notStarted := fun lc => (h.notStarted lc).2.2
        queued := h.queued, switch := h.switch, oneSwitch := h.oneSwitch, close := h.close }⟩
  mpr h :=
    { notStarted := fun lc => ⟨(h.1.notStarted lc).1, (h.1.notStarted lc).2, h.2.notStarted lc⟩
      terminator := h.1.terminator, here := h.1.here, behind := h.1.behind, commands := h.1.commands, idle := h.1.idle
      queued := h.2.queued, switch := h.2.switch, oneSwitch := h.2.oneSwitch, close := h.2.close }

/-! ### What each part reads of the state -/

/-- The registry decides which commands can be executed; it is the same in both states. -/
structure SameRegistry (s t : State) : Prop where
  params : t.params = s.params
  selMap : t.selMap = s.selMap
  ovlDesc : t.ovlDesc = s.ovlDesc

theorem emittable_of_sameRegistry {s t : State} (same : SameRegistry s t) {c : Cmd} (h : Emittable s c) :
    Emittable t c where
  size := by
    have size := h.size
    simp only [opSize] at size ⊢
    rw [same.selMap, same.ovlDesc]
    exact size
  maxCmd := by
    rw [same.params]
    exact h.maxCmd
  terminator := h.terminator
  jump := h.jump

/-- The elements that RingContents reads are the same in both states. -/
structure SameRing (s t : State) : Prop where
  params : t.params = s.params
  selMap : t.selMap = s.selMap
  ovlDesc : t.ovlDesc = s.ovlDesc
  mem : t.mem = s.mem
  lc : t.lc = s.lc
  active : t.active = s.active
  cursor : t.cursor = s.cursor
  sig : t.sig = s.sig
  cstate : t.cstate = s.cstate
  cbuf : t.cbuf = s.cbuf
  rpos : t.rpos = s.rpos

theorem ringContents_of_sameRing {s t : State} {q : List Cmd} (same : SameRing s t) (h : RingContents s q) :
    RingContents t q where
  notStarted := by
    rw [same.lc, same.cstate]
    exact h.notStarted
  terminator := by
    rw [same.lc, same.active, same.cursor, ringRead_congr same.params same.mem]
    exact h.terminator
  here := by
    rw [same.lc, same.cbuf, same.active, same.cursor, same.rpos, ringReads_congr same.params same.mem]
    exact h.here
  behind := by
    simp only [same.lc, same.cbuf, same.active, same.cursor, same.rpos, same.params,
      ringReads_congr same.params same.mem]
    exact h.behind
  commands c inRing := emittable_of_sameRegistry ⟨same.params, same.selMap, same.ovlDesc⟩ (h.commands c inRing)
  idle := by
    rw [same.lc, same.cstate, same.sig, same.cbuf, same.active]
    exact h.idle

/-- An empty ring that an idle consumer waits at. -/
theorem ringContents_empty {s : State} (idle : s.cstate = .idle) (signal : s.sig = false) (buffer : s.cbuf = s.active)
    (position : s.rpos = s.cursor) (terminator : s.lc ≠ .uninit → ringRead s s.active s.cursor = .ok 0) :
    RingContents s [] where
  notStarted _ := ⟨rfl, idle⟩
  terminator := terminator
  here _ _ := ⟨position, rfl⟩
  behind _ atOther := absurd buffer atOther
  commands _ inRing := absurd inRing List.not_mem_nil
  idle _ _ := ⟨signal, buffer, rfl⟩

/-- The elements that QueueShape reads are the same in both states. -/
structure SameQueue (s t : State) : Prop where
  params : t.params = s.params
  selMap : t.selMap = s.selMap
  ovlDesc : t.ovlDesc = s.ovlDesc
  lc : t.lc = s.lc
  switchPending : t.switchPending = s.switchPending
  pq : t.pq = s.pq

theorem queueShape_of_sameQueue {s t : State} (same : SameQueue s t) (stays : drained s = true → drained t = true)
    (h : QueueShape s) : QueueShape t where
  notStarted := by
    rw [same.lc, same.pq]
    exact h.notStarted
  queued := by
    rw [same.pq]
    exact fun c toEmit => emittable_of_sameRegistry ⟨same.params, same.selMap, same.ovlDesc⟩ (h.queued c toEmit)
  switch := by
    rw [same.pq, same.switchPending]
    exact h.switch
  oneSwitch := by
    rw [same.pq]
    exact h.oneSwitch
  close := by
    rw [same.pq]
    exact fun closing => (h.close closing).imp_right fun last => ⟨last.1, stays last.2⟩

/-- A PQ with no SWITCH and no CLOSE_COMMIT. -/
theorem queueShape_plain {s : State} (notStarted : s.lc ≠ .started → ∀ m ∈ s.pq, m = .drain ∨ m = .closeCommit)
    (queued : ∀ c ∈ emitsOf s.pq, Emittable s c) (pending : s.switchPending = false) (noSwitch : .switch ∉ s.pq)
    (noClose : .closeCommit ∉ s.pq) : QueueShape s where
  notStarted := notStarted
  queued := queued
  switch := by
    rw [pending]
    exact ⟨nofun, fun head => absurd (List.mem_of_mem_head? head) noSwitch⟩
  oneSwitch inTail := noSwitch (List.mem_of_mem_tail inTail)
  close closing := absurd closing noClose

/-- An empty PQ has no switch pending. -/
theorem QueueShape.pending_of_head {s : State} (h : QueueShape s) (head : s.pq.head? ≠ some .switch) :
    s.switchPending = false := by
  cases pending : s.switchPending with
  | false => rfl
  | true => exact absurd (h.switch.mp pending) head

end Sys2Proof.Proofs
end

section
/-! The producer's steps keep the ring invariant (40_ring_buffer.md R150 to R170). -/
namespace Sys2Proof.Proofs

open Sys2Proof Sys2Proof.Machine

/-! ### What the ring holds after a producer step -/

/-- R160: EMIT appends its command to the words before the cursor, and a terminator after it. -/
theorem ringContents_emit {s t : State} {q : List Cmd} {c : Cmd} (valid : s.params.valid = true)
    (h : RingContents s q) (lc : s.lc = .started) (emittable : Emittable s c) (emit : emitCommand s c = .ok t) :
    RingContents t (q ++ [c]) := by
  obtain ⟨fits, -, after⟩ := emitCommand_ok emit
  have initialized : s.lc ≠ .uninit := by rw [lc]; decide
  have room : s.cursor + (c.words ++ [0]).length ≤ s.params.cap + 1 := by
    simp only [Cmd.size, Cmd.words, List.length_append, List.length_cons, List.length_nil] at fits ⊢
    omega
  have params : t.params = s.params := by rw [after]
  have mem : t.mem = memWriteWords s.mem (ringAddr s.params s.active s.cursor) (c.words ++ [0]) := by rw [after]
  have kept {k : Nat} (before : k < s.cursor) : ringRead t s.active k = ringRead s s.active k :=
    ringRead_write_outside params mem (.inl before)
  have keptOther (k : Nat) : ringRead t s.active.other k = ringRead s s.active.other k :=
    ringRead_write_other valid params mem room k
  have written : ringReads t s.active s.cursor (c.words ++ [0]).length = .ok (c.words ++ [0]) :=
    ringReads_of_getElem fun k w word => ringRead_write valid params mem room word
  rw [List.length_append] at written
  obtain ⟨command, terminator⟩ := ringReads_append.mp written
  have flat : flatWords (q ++ [c]) = flatWords q ++ c.words := by simp [flatWords]
  have registry : SameRegistry s t := by constructor <;> rw [after]
  subst after
  refine
    { notStarted := fun notStarted => absurd lc notStarted
      terminator := fun _ => (ringReads_cons.mp terminator).1
      here := fun _ atActive => ?_
      behind := fun _ atOther => ?_
      commands := fun d inRing => ?_
      idle := fun _ idle => nomatch idle }
  · obtain ⟨position, words⟩ := h.here initialized atActive
    rw [flat, List.length_append]
    refine ⟨by rw [← Nat.add_assoc, position]; rfl, ringReads_append.mpr ⟨?_, ?_⟩⟩
    · rw [← words]
      exact ringReads_of_ringRead fun k _ high => kept (Nat.lt_of_lt_of_eq high position)
    · rw [position]
      exact command
  · obtain ⟨q1, q2, rfl, jump, words, length⟩ := h.behind initialized atOther
    have flat2 : flatWords (q2 ++ [c]) = flatWords q2 ++ c.words := by simp [flatWords]
    refine ⟨q1, q2 ++ [c], List.append_assoc q1 q2 [c], ?_, ?_, ?_⟩
    · rw [← jump]
      refine ringReads_of_ringRead fun k _ _ => ?_
      rw [eq_other_of_ne atOther]
      exact keptOther k
    · rw [flat2, List.length_append]
      refine ringReads_append.mpr ⟨?_, ?_⟩
      · rw [← words]
        exact ringReads_of_ringRead fun k _ high => kept (Nat.lt_of_lt_of_eq high ((Nat.zero_add _).trans length))
      · rw [length, Nat.zero_add]
        exact command
    · rw [flat2, List.length_append, length]
      rfl
  · have known : Emittable s d := by
      obtain inQueue | last := List.mem_append.mp inRing
      · exact h.commands d inQueue
      · exact List.mem_singleton.mp last ▸ emittable
    exact emittable_of_sameRegistry registry known

/-- R165: SWITCH leaves the commands in the old buffer, ended by a JUMP, and an empty new buffer. -/
theorem ringContents_switch {s t : State} {q : List Cmd} (valid : s.params.valid = true) (h : RingContents s q)
    (lc : s.lc = .started) (guard : s.cbuf = s.active) (switch : switchBuffer s = .ok t) : RingContents t q := by
  obtain ⟨fits, -, -, after⟩ := switchBuffer_ok switch
  have initialized : s.lc ≠ .uninit := by rw [lc]; decide
  obtain ⟨position, words⟩ := h.here initialized guard
  have room : 0 + (List.replicate (s.params.cap + 1) (0 : Word)).length ≤ s.params.cap + 1 := by simp
  obtain ⟨u, paramsU, memU⟩ : ∃ u : State, u.params = s.params ∧ u.mem = memWriteWords s.mem
      (ringAddr s.params s.active.other 0) (List.replicate (s.params.cap + 1) 0) :=
    ⟨{ s with mem := memWriteWords s.mem (ringAddr s.params s.active.other 0) (List.replicate (s.params.cap + 1) 0) },
      rfl, rfl⟩
  have paramsT : t.params = u.params := by rw [after, paramsU]
  have memT : t.mem = memWriteWords u.mem (ringAddr u.params s.active s.cursor) [jumpWord s.params s.active.other] := by
    rw [after, memU, paramsU]
  have validU : u.params.valid = true := by rw [paramsU]; exact valid
  have roomU : s.cursor + [jumpWord s.params s.active.other].length ≤ u.params.cap + 1 := by
    rw [paramsU]
    exact Nat.succ_le_succ fits
  have jump : ringRead t s.active s.cursor = .ok (jumpWord s.params s.active.other) :=
    ringRead_write (k := 0) validU paramsT memT roomU rfl
  have kept {k : Nat} (before : k < s.cursor) : ringRead t s.active k = ringRead s s.active k := by
    have keptU : ringRead u s.active.other.other k = ringRead s s.active.other.other k :=
      ringRead_write_other valid paramsU memU room k
    rw [other_other] at keptU
    rw [ringRead_write_outside paramsT memT (.inl before), keptU]
  have terminator : ringRead t s.active.other 0 = .ok 0 := by
    rw [ringRead_write_other validU paramsT memT roomU]
    exact ringRead_write (k := 0) valid paramsU memU room (by simp)
  have oldBuffer : ringReads t s.cbuf s.rpos ((flatWords q).length + 1)
      = .ok (flatWords q ++ [jumpWord s.params s.active.other]) := by
    rw [guard]
    refine (ringReads_append (vs := [jumpWord s.params s.active.other])).mpr ⟨?_, ringReads_cons.mpr ⟨?_, rfl⟩⟩
    · rw [← words]
      exact ringReads_of_ringRead fun k _ high => kept (Nat.lt_of_lt_of_eq high position)
    · rw [position]
      exact jump
  have registry : SameRegistry s t := by constructor <;> rw [after]
  subst after
  exact
    { notStarted := fun notStarted => absurd lc notStarted
      terminator := fun _ => terminator
      here := fun _ atActive => absurd (guard.symm.trans atActive) (other_ne s.active)
      behind := fun _ _ => ⟨q, [], (List.append_nil q).symm, oldBuffer, rfl, rfl⟩
      commands := fun d inRing => emittable_of_sameRegistry registry (h.commands d inRing)
      idle := fun _ idle => nomatch idle }

/-- R150, R451: `init` leaves an empty ring, a terminator at its start. -/
theorem ringContents_init {s u v : State} (valid : s.params.valid = true)
    (clear0 : ringWrite s .b0 0 (List.replicate (s.params.cap + 1) 0) = .ok u)
    (clear1 : ringWrite u .b1 0 (List.replicate (s.params.cap + 1) 0) = .ok v) :
    RingContents (initState s v.mem) [] := by
  obtain ⟨room0, -, cleared0⟩ := ringWrite_ok clear0
  obtain ⟨room1, -, cleared1⟩ := ringWrite_ok clear1
  have paramsU : u.params = s.params := by rw [cleared0]
  have paramsV : v.params = u.params := by rw [cleared1]
  have terminator : ringRead (initState s v.mem) .b0 0 = .ok 0 := by
    have inV : ringRead v (RingBuf.other .b1) 0 = ringRead u (RingBuf.other .b1) 0 :=
      ringRead_write_other (paramsU ▸ valid) paramsV (by rw [cleared1]) room1 0
    have inU : ringRead u .b0 0 = .ok 0 :=
      ringRead_write (k := 0) valid paramsU (by rw [cleared0]) room0 (by simp)
    exact (ringRead_congr (s := v) (t := initState s v.mem) (paramsV.trans paramsU).symm rfl .b0 0).trans
      (inV.trans inU)
  exact ringContents_empty rfl rfl rfl rfl fun _ => terminator

/-- Before `init` the ring is empty and nothing is queued (10_state.md R60). -/
theorem ringInv_uninit {s : State} (lc : s.lc = .uninit) (idle : s.cstate = .idle) (pq : s.pq = [])
    (pending : s.switchPending = false) : RingInv s [] where
  notStarted _ := ⟨rfl, idle, by simp [pq]⟩
  terminator initialized := absurd lc initialized
  here initialized := absurd lc initialized
  behind initialized := absurd lc initialized
  commands _ inRing := absurd inRing List.not_mem_nil
  queued := by simp [pq, emitsOf]
  idle initialized := absurd lc initialized
  switch := by simp [pq, pending]
  oneSwitch := by simp [pq]
  close := by simp [pq]

/-! ### The commands queued (40_ring_buffer.md R157) -/

theorem builtinSize_le (op : Byte) : builtinSize op ≤ 4 := by
  unfold builtinSize
  split <;> decide

/-- A descriptor that passed `desc_ok` has no command of more than MAX_CMD words (41_overlay_registry.md R190). -/
theorem descSize_le_of_clientDescOk {p : Params} {d : Descriptor} (h : clientDescOk p d = true) (op : Byte) :
    descSize d op ≤ p.maxCmd := by
  have every : ∀ f : Fin 16, f ∈ functions := by decide
  unfold clientDescOk at h
  split at h
  · next sizes handler cmdSize _ =>
    have fits := List.all_eq_true.mp (Bool.and_eq_true_iff.mp h).1 (fnOf op) (every _)
    simp only [descSize, cmdSize]
    exact of_decide_eq_true fits
  · cases h

/-- Every opcode with a size takes at most MAX_CMD words (30_encoding.md R110). -/
theorem opSize_le_maxCmd {s : State} (inv : StateInv s) {op : Byte} {n : Nat} (h : opSize s op = some n) :
    n ≤ s.params.maxCmd := by
  unfold opSize at h
  split at h
  · have minimum : 4 ≤ s.params.maxCmd := by
      have valid := inv.params
      simp only [Params.valid, Bool.and_eq_true, decide_eq_true_eq] at valid
      omega
    exact Option.some.inj h ▸ (builtinSize_le op).trans minimum
  · next client =>
    split at h
    · cases h
    · next id isBound =>
      have clientId := inv.clients (selOf op) id (Fin.not_lt.mp client) isBound
      exact Option.some.inj h ▸
        descSize_le_of_clientDescOk (inv.descriptors id clientId (inv.bound (selOf op) id isBound)) op

theorem emittable_of_writable {s : State} (inv : StateInv s) {c : Cmd} (h : Writable s c) : Emittable s c :=
  ⟨h.size, opSize_le_maxCmd inv h.size, h.terminator, h.jump⟩

theorem emittable_syncFull {s : State} (inv : StateInv s) : Emittable s syncFullCmd := by
  have size : opSize s syncFullCmd.op = some syncFullCmd.size := (opSize_builtin (by decide)).trans (by decide)
  exact ⟨size, opSize_le_maxCmd inv size, by decide, by decide⟩

theorem mem_emitsOf {c : Cmd} {p : List MicroStep} : c ∈ emitsOf p ↔ ∃ clr use, .emit c clr use ∈ p := by
  induction p with
  | nil => simp [emitsOf]
  | cons m p ih => cases m <;> simp [emitsOf, ih, exists_or]

/-! ### What PQ holds after an issue step -/

theorem queueShape_empty {s : State} (pq : s.pq = []) (pending : s.switchPending = false) : QueueShape s :=
  queueShape_plain (by simp [pq]) (by simp [pq, emitsOf]) pending (by simp [pq]) (by simp [pq])

/-- A PQ of EMITs of writable commands, queued after `start`. -/
theorem queueShape_writable {s t : State} (inv : StateInv s) (registry : SameRegistry s t) (lc : t.lc = .started)
    (pending : t.switchPending = false) (queue : EmitsWritable s t.pq) : QueueShape t := by
  refine queueShape_plain (fun notStarted => absurd lc notStarted) (fun c toEmit => ?_) pending (fun inPq => ?_)
    (fun inPq => ?_)
  · obtain ⟨clr, use, inPq⟩ := mem_emitsOf.mp toEmit
    obtain ⟨d, _, _, same, writable⟩ := queue _ inPq
    cases same
    exact emittable_of_sameRegistry registry (emittable_of_writable inv writable)
  · obtain ⟨_, _, _, same, -⟩ := queue _ inPq
    cases same
  · obtain ⟨_, _, _, same, -⟩ := queue _ inPq
    cases same

theorem ringInv_issue {s t : State} {q : List Cmd} (inv : StateInv s) (h : RingInv s q) (empty : s.pq = [])
    (outcome : IssueOutcome s t) : RingInv t q := by
  obtain ⟨contents, shape⟩ := ringInv_iff.mp h
  have pending : s.switchPending = false := shape.pending_of_head (by simp [empty])
  have ready (lc : s.lc = .ready) : q = [] ∧ s.cstate = .idle ∧ s.sig = false ∧ s.cbuf = s.active ∧ s.rpos = s.cursor
      ∧ ringRead s s.active s.cursor = .ok 0 := by
    have initialized : s.lc ≠ .uninit := by rw [lc]; decide
    obtain ⟨rfl, idle⟩ := contents.notStarted (by rw [lc]; decide)
    obtain ⟨signal, buffer, -⟩ := contents.idle initialized idle
    exact ⟨rfl, idle, signal, buffer, (contents.here initialized buffer).1, contents.terminator initialized⟩
  refine ringInv_iff.mpr ?_
  cases outcome with
  | inits lc closed clear0 clear1 =>
    obtain ⟨rfl, -⟩ := contents.notStarted (by rw [lc]; decide)
    exact ⟨ringContents_init inv.params clear0 clear1, queueShape_empty rfl rfl⟩
  | closes lc closed =>
    refine ⟨ringContents_of_sameRing (by constructor <;> rfl) contents, ?_⟩
    exact
      { notStarted := fun _ m inPq => by simpa using inPq
        queued := fun _ toEmit => nomatch toEmit
        switch := by simp [pending]
        oneSwitch := by simp
        close := fun _ => .inl rfl }
  | registers id d lc | binds id sel lc | starts lc =>
    obtain ⟨rfl, idle, signal, buffer, position, terminator⟩ := ready lc
    exact ⟨ringContents_empty idle signal buffer position fun _ => terminator, queueShape_empty empty pending⟩
  | reserves | stores | configures =>
    exact ⟨ringContents_of_sameRing (by constructor <;> rfl) contents, queueShape_empty empty pending⟩
  | publishes c lc size writable =>
    exact ⟨ringContents_of_sameRing (by constructor <;> rfl) contents,
      queueShape_writable inv (by constructor <;> rfl) lc pending (emitsWritable_singleton writable 0 0)⟩
  | writes p a lc closed queue reserved =>
    exact ⟨ringContents_of_sameRing (by constructor <;> rfl) contents,
      queueShape_writable inv (by constructor <;> rfl) lc pending queue⟩
  | fences e waits lc closed kind =>
    refine ⟨ringContents_of_sameRing (by constructor <;> rfl) contents, ?_⟩
    have emits : emitsOf (.emit syncFullCmd allMask 0 :: waits) = [syncFullCmd] := by
      obtain rfl | rfl := kind <;> rfl
    have noSwitch : .switch ∉ MicroStep.emit syncFullCmd allMask 0 :: waits := by
      obtain rfl | rfl := kind <;> simp
    have noClose : .closeCommit ∉ MicroStep.emit syncFullCmd allMask 0 :: waits := by
      obtain rfl | rfl := kind <;> simp
    refine queueShape_plain (fun notStarted => absurd lc notStarted) (fun c toEmit => ?_) pending noSwitch noClose
    rw [emits] at toEmit
    rw [List.mem_singleton.mp toEmit]
    exact emittable_of_sameRegistry (by constructor <;> rfl) (emittable_syncFull inv)

/-! ### What PQ holds after a micro-step -/

section Pop
variable {s : State} {m : MicroStep} {rest : List MicroStep}

theorem noSwitch_of_pop (h : QueueShape s) (head : s.pq = m :: rest) : .switch ∉ rest := by
  have oneSwitch := h.oneSwitch
  rw [head] at oneSwitch
  exact oneSwitch

theorem noClose_of_pop (h : QueueShape s) (head : s.pq = m :: rest) (other : m ≠ .drain) : .closeCommit ∉ rest := by
  intro inRest
  have closing := h.close (head ▸ List.mem_cons_of_mem m inRest)
  rw [head] at closing
  obtain both | ⟨last, -⟩ := closing
  · exact other (List.cons.inj both).1
  · rw [(List.cons.inj last).2] at inRest
    cases inRest

theorem started_of_pop (h : QueueShape s) (head : s.pq = m :: rest) (drain : m ≠ .drain) (close : m ≠ .closeCommit) :
    s.lc = .started := by
  by_contra notStarted
  exact (h.notStarted notStarted m (head ▸ List.mem_cons_self)).elim drain close

end Pop

/-- The waits of PQ (R152, 42_encoder_autosync.md R233) leave it, and CLOSE_COMMIT follows DRAIN in a drained block. -/
theorem queueShape_pass {s : State} {m : MicroStep} {rest : List MicroStep} (h : QueueShape s)
    (head : s.pq = m :: rest) (guard : (∃ k, m = .waitf k) ∨ m = .drain ∧ drained s = true) :
    QueueShape { s with pq := rest } := by
  have noSwitch := noSwitch_of_pop h head
  have pending : s.switchPending = false := h.pending_of_head (by
    rw [head]
    obtain ⟨k, rfl⟩ | ⟨rfl, -⟩ := guard <;> simp)
  have emits : emitsOf s.pq = emitsOf rest := by
    rw [head]
    obtain ⟨k, rfl⟩ | ⟨rfl, -⟩ := guard <;> rfl
  exact
    { notStarted := fun notStarted m inRest => h.notStarted notStarted m (head ▸ List.mem_cons_of_mem _ inRest)
      queued := fun c toEmit =>
        emittable_of_sameRegistry (by constructor <;> rfl) (h.queued c (emits ▸ toEmit))
      switch := ⟨fun set => (Bool.false_ne_true (pending.symm.trans set)).elim,
        fun first => absurd (List.mem_of_mem_head? first) noSwitch⟩
      oneSwitch := fun inTail => noSwitch (List.mem_of_mem_tail inTail)
      close := fun closing => by
        obtain ⟨k, rfl⟩ | ⟨rfl, isDrained⟩ := guard
        · exact absurd closing (noClose_of_pop h head (by simp))
        · obtain both | ⟨last, -⟩ := h.close (head ▸ List.mem_cons_of_mem _ closing)
          · exact .inr ⟨(List.cons.inj (head.symm.trans both)).2, isDrained⟩
          · cases head.symm.trans last }

/-- R160: EMIT queues a SWITCH exactly when it sets SWITCH_PENDING. -/
theorem emitCommand_pq {s t : State} {c : Cmd} (pending : s.switchPending = false) (emit : emitCommand s c = .ok t) :
    t.switchPending = true ∧ t.pq = .switch :: s.pq ∨ t.switchPending = false ∧ t.pq = s.pq := by
  obtain ⟨-, -, after⟩ := emitCommand_ok emit
  by_cases past : s.params.sentinel < s.cursor + c.size
  · exact .inl ⟨by simp [after, past], by simp [after, past]⟩
  · exact .inr ⟨by simp [after, past, pending], by simp [after, past]⟩

theorem queueShape_emit {s t : State} {c : Cmd} {clr use : HazardMask} {rest : List MicroStep} (h : QueueShape s)
    (head : s.pq = .emit c clr use :: rest) (emit : emitCommand { s with pq := rest } c = .ok t) : QueueShape t := by
  have noSwitch := noSwitch_of_pop h head
  have noClose := noClose_of_pop h head (by simp)
  have pending : s.switchPending = false := h.pending_of_head (by simp [head])
  obtain ⟨-, -, after⟩ := emitCommand_ok emit
  have started := started_of_pop h head (by simp) (by simp)
  have lc : t.lc = .started := by rw [after, ← started]
  have queued : ∀ d ∈ emitsOf rest, Emittable t d := fun d toEmit => by
    refine emittable_of_sameRegistry (by constructor <;> rw [after]) (h.queued d ?_)
    rw [head]
    exact List.mem_cons_of_mem c toEmit
  obtain ⟨set, pq⟩ | ⟨clear, pq⟩ := emitCommand_pq (s := { s with pq := rest }) pending emit
  · exact
      { notStarted := fun notStarted => absurd lc notStarted
        queued := by
          rw [pq]
          exact queued
        switch := by simp [set, pq]
        oneSwitch := by
          rw [pq]
          exact noSwitch
        close := by simp [pq, noClose] }
  · exact queueShape_plain (fun notStarted => absurd lc notStarted) (pq ▸ queued) clear (pq ▸ noSwitch) (pq ▸ noClose)

/-- R152: CLOSE_COMMIT runs in a drained block, so the ring is empty. -/
theorem empty_of_closeCommit {s : State} {q : List Cmd} {rest : List MicroStep} (inv : StateInv s)
    (contents : RingContents s q) (shape : QueueShape s) (head : s.pq = .closeCommit :: rest) : q = [] := by
  have initialized := initialized_of_pq inv (by simp [head])
  obtain both | ⟨-, isDrained⟩ := shape.close (by simp [head])
  · cases head.symm.trans both
  · simp only [drained, Bool.and_eq_true, decide_eq_true_eq] at isDrained
    obtain ⟨⟨⟨⟨⟨⟨-, buffer⟩, position⟩, -⟩, -⟩, -⟩, -⟩ := isDrained
    have length := (contents.here initialized buffer).1
    exact flatWords_eq_nil.mp (List.length_eq_zero_iff.mp (by omega))

/-- Every step of the producer keeps the ring invariant; an EMIT appends its command to what the ring holds (R170). -/
theorem ringInv_producer {s t : State} {q : List Cmd} (inv : StateInv s) (h : RingInv s q)
    (outcome : ProducerOutcome s t) : RingInv t (q ++ emitted s.pq) := by
  obtain ⟨contents, shape⟩ := ringInv_iff.mp h
  have popped (rest : List MicroStep) : RingContents { s with pq := rest } q :=
    ringContents_of_sameRing (by constructor <;> rfl) contents
  cases outcome with
  | rests noEmit =>
    rw [noEmit, List.append_nil]
    exact h
  | @emits c clr use rest t head emit =>
    have lc := started_of_pop shape head (by simp) (by simp)
    have emittable : Emittable s c := shape.queued c (head ▸ List.mem_cons_self)
    rw [head]
    exact ringInv_iff.mpr
      ⟨ringContents_emit (s := { s with pq := rest }) inv.params (popped rest) lc
        (emittable_of_sameRegistry (by constructor <;> rfl) emittable) emit, queueShape_emit shape head emit⟩
  | @switches rest t head guard switch =>
    have lc := started_of_pop shape head (by simp) (by simp)
    have held := ringContents_switch (s := { s with pq := rest }) inv.params (popped rest) lc guard switch
    have noEmit : emitted s.pq = [] := by rw [head]; rfl
    rw [noEmit, List.append_nil]
    refine ringInv_iff.mpr ⟨held, ?_⟩
    obtain ⟨-, -, -, rfl⟩ := switchBuffer_ok switch
    refine queueShape_plain (fun notStarted => absurd lc notStarted) (fun d toEmit => ?_) rfl
      (noSwitch_of_pop shape head) (noClose_of_pop shape head (by simp))
    exact emittable_of_sameRegistry (s := s) (by constructor <;> rfl) (shape.queued d (head ▸ toEmit))
  | @passes m rest head guard =>
    have noEmit : emitted s.pq = [] := by
      rw [head]
      obtain ⟨k, rfl⟩ | ⟨rfl, -⟩ := guard <;> rfl
    rw [noEmit, List.append_nil]
    exact ringInv_iff.mpr ⟨popped rest, queueShape_pass shape head guard⟩
  | @commits rest head =>
    have nothing : q ++ emitted s.pq = [] := by
      rw [head, empty_of_closeCommit inv contents shape head]
      rfl
    rw [nothing]
    exact ringInv_uninit rfl rfl rfl rfl
  | @issues op ops t empty host outcome =>
    have taken : RingInv { s with hostOps := ops } q := ringInv_iff.mpr
      ⟨ringContents_of_sameRing (by constructor <;> rfl) contents,
        queueShape_of_sameQueue (s := s) (by constructor <;> rfl) id shape⟩
    have issued := ringInv_issue (s := { s with hostOps := ops }) { inv with } taken empty outcome
    have noEmit : emitted s.pq = [] := by rw [empty]; rfl
    rw [noEmit, List.append_nil]
    exact issued

end Sys2Proof.Proofs
end

section
/-! The consumer's steps keep the ring invariant (43_consumer_dispatch.md R260 to R279): the consumer faces a command of
the ring, the JUMP at the end of the old buffer, or the terminator at the cursor, and moves past what it faces. -/
namespace Sys2Proof.Proofs

open Sys2Proof Sys2Proof.Machine

/-- What stands at the consumer's position (R170, 3 and 4). -/
inductive Faces (s : State) : List Cmd → Prop
  | terminator (words : ringReads s s.cbuf s.rpos 1 = .ok [0]) (buffer : s.cbuf = s.active) : Faces s []
  | jump {q : List Cmd} (words : ringReads s s.cbuf s.rpos 1 = .ok [jumpWord s.params s.active])
    (past : RingContents { s with cbuf := s.cbuf.other, rpos := 0 } q) : Faces s q
  | command {c : Cmd} {q : List Cmd} (words : ringReads s s.cbuf s.rpos c.size = .ok c.words)
    (emittable : Emittable s c) (past : RingContents { s with rpos := s.rpos + c.size } q) : Faces s (c :: q)

theorem started_of_run {s : State} {q : List Cmd} (h : RingContents s q) (run : s.cstate = .run) : s.lc = .started := by
  by_contra notStarted
  have idle := (h.notStarted notStarted).2
  rw [run] at idle
  cases idle

/-- A running consumer moved to another position of the ring: the clauses on that position decide. -/
theorem ringContents_moved {s : State} {q q' : List Cmd} (h : RingContents s q) (run : s.cstate = .run) {b : RingBuf}
    {i : Nat} (stays : ∀ c ∈ q', c ∈ q)
    (here : b = s.active → i + (flatWords q').length = s.cursor
      ∧ ringReads s s.active i (flatWords q').length = .ok (flatWords q'))
    (behind : b ≠ s.active → ∃ q1 q2, q' = q1 ++ q2
      ∧ ringReads s b i ((flatWords q1).length + 1) = .ok (flatWords q1 ++ [jumpWord s.params s.active])
      ∧ ringReads s s.active 0 (flatWords q2).length = .ok (flatWords q2) ∧ (flatWords q2).length = s.cursor) :
    RingContents { s with cbuf := b, rpos := i } q' := by
  have same (b' : RingBuf) (j n : Nat) : ringReads { s with cbuf := b, rpos := i } b' j n = ringReads s b' j n :=
    ringReads_congr (s := s) (t := { s with cbuf := b, rpos := i }) rfl rfl b' j n
  exact
    { notStarted := fun notStarted => absurd (started_of_run h run) notStarted
      terminator := h.terminator
      here := fun _ buffer => ⟨(here buffer).1, (same _ _ _).trans (here buffer).2⟩
      behind := fun _ buffer => by
        obtain ⟨q1, q2, split, jump, words, length⟩ := behind buffer
        exact ⟨q1, q2, split, (same _ _ _).trans jump, (same _ _ _).trans words, length⟩
      commands := fun c inRing =>
        emittable_of_sameRegistry (s := s) (by constructor <;> rfl) (h.commands c (stays c inRing))
      idle := fun _ idle => nomatch run.symm.trans idle }

/-- In the active buffer the consumer faces the next command, or the terminator at the cursor. -/
theorem faces_of_here {s : State} {q : List Cmd} (h : RingContents s q) (run : s.cstate = .run)
    (buffer : s.cbuf = s.active) : Faces s q := by
  have initialized : s.lc ≠ .uninit := by rw [started_of_run h run]; decide
  obtain ⟨position, words⟩ := h.here initialized buffer
  cases q with
  | nil =>
    have terminator := h.terminator initialized
    rw [← position, ← buffer] at terminator
    exact .terminator (ringReads_cons.mpr ⟨terminator, rfl⟩) buffer
  | cons c q =>
    have flat : flatWords (c :: q) = c.words ++ flatWords q := rfl
    rw [flat, List.length_append] at position words
    obtain ⟨first, others⟩ := ringReads_append.mp words
    rw [← buffer] at first
    refine .command first (h.commands c List.mem_cons_self) (ringContents_moved h run
      (fun d inRing => List.mem_cons_of_mem c inRing) (fun _ => ⟨?_, others⟩) fun atOther => absurd buffer atOther)
    rw [← position, ← Nat.add_assoc]
    rfl

/-- In the old buffer the consumer faces the next command, or the JUMP to the active one. -/
theorem faces_of_behind {s : State} {q : List Cmd} (h : RingContents s q) (run : s.cstate = .run)
    (buffer : s.cbuf ≠ s.active) : Faces s q := by
  have initialized : s.lc ≠ .uninit := by rw [started_of_run h run]; decide
  obtain ⟨q1, q2, rfl, jump, words, length⟩ := h.behind initialized buffer
  cases q1 with
  | nil =>
    refine .jump jump (ringContents_moved h run (fun d inRing => inRing)
      (fun _ => ⟨(Nat.zero_add _).trans length, words⟩) fun atOther => ?_)
    rw [eq_other_of_ne buffer, other_other] at atOther
    exact absurd rfl atOther
  | cons c q1 =>
    have flat : flatWords (c :: q1) = c.words ++ flatWords q1 := rfl
    have last : (flatWords q1).length + 1 = (flatWords q1 ++ [jumpWord s.params s.active]).length := by simp
    rw [flat, List.length_append, List.append_assoc, Nat.add_assoc, last] at jump
    obtain ⟨first, others⟩ := ringReads_append.mp jump
    rw [← last] at others
    exact .command first (h.commands c List.mem_cons_self) (ringContents_moved h run
      (fun d inRing => List.mem_cons_of_mem c inRing) (fun atActive => absurd atActive buffer)
      fun _ => ⟨q1, q2, rfl, others, words, length⟩)

theorem faces_of_run {s : State} {q : List Cmd} (h : RingContents s q) (run : s.cstate = .run) : Faces s q := by
  by_cases buffer : s.cbuf = s.active
  · exact faces_of_here h run buffer
  · exact faces_of_behind h run buffer

/-- What a consumer step makes of the ring and of RZ_Q: nothing, or the command at its head is executed, and the
commands it forwards hold a SYNC_FULL exactly when it is one (R170, 44_rasterizer_commands.md R307). -/
inductive Consumes (s t : State) (bs : List Byte) : List Cmd → List Cmd → Prop
  | nothing {q : List Cmd} (rzQ : t.rzQ = s.rzQ) : Consumes s t bs q q
  | head {c : Cmd} {q out : List Cmd} (fetched : bs = bytesOfWords c.words) (rzQ : t.rzQ = s.rzQ ++ out)
    (syncs : syncFulls out = syncFulls [c]) : Consumes s t bs (c :: q) q

/-- Selector 2 is the built-in overlay's, so SYNC_FULL has a built-in handler (41_overlay_registry.md R193). -/
theorem builtin_of_syncFull {s : State} (inv : StateInv s) (initialized : s.lc ≠ .uninit) {op : Byte} {id : Fin 16}
    {n : Nat} (extent : overlayExtent s op = .ok (id, n)) (syncFull : op = 0x29#8) : id = 1 := by
  obtain ⟨-, -, -, -, -, -, sel2, -⟩ := inv.builtins initialized
  obtain ⟨isBound, -⟩ := overlayExtent_ok extent
  subst syncFull
  exact Option.some.inj (isBound.symm.trans sel2)

theorem syncFulls_congr {c d : Cmd} (h : c.op = d.op) : syncFulls [c] = syncFulls [d] := by
  simp [syncFulls, h]

/-- A command of the ring is executed whole, or it faults or stalls and nothing moves (R260, R277). -/
theorem consumes_command {s t : State} {bs rest : List Byte} {i : Instr} {c : Cmd} {q : List Cmd} (inv : StateInv s)
    (h : RingContents s (c :: q)) (run : s.cstate = .run)
    (words : ringReads s s.cbuf s.rpos c.size = .ok c.words) (emittable : Emittable s c)
    (past : RingContents { s with rpos := s.rpos + c.size } q) (fetched : fetch s = .ok bs)
    (decoded : decode (decodeSize s) bs = .ok (i, rest)) (executed : exec i s = .next t) :
    ∃ q', RingContents t q' ∧ Consumes s t bs (c :: q) q' := by
  have initialized : s.lc ≠ .uninit := by rw [started_of_run h run]; decide
  have whole := fetch_words emittable.size words fetched
  have opcode := fetched_opcode emittable.size words fetched decoded
  cases exec_outcome executed with
  | signalled _ command | paused _ command =>
    exact absurd (opcode.symm.trans (by rw [command]; rfl)) emittable.terminator
  | jumped _ command => exact absurd (opcode.symm.trans (by rw [command]; rfl)) emittable.jump
  | raised code info =>
    exact ⟨c :: q, ringContents_of_sameRing (by constructor <;> simp) h, .nothing (by simp)⟩
  | stalled => exact ⟨c :: q, h, .nothing rfl⟩
  | skipped _ command =>
    have noop : c.op = 0x01#8 := opcode.symm.trans (by rw [command]; rfl)
    have size : c.size = 1 := by
      have sized := emittable.size
      rw [noop, opSize_builtin (by decide)] at sized
      exact (Option.some.inj sized).symm
    rw [size] at past
    exact ⟨q, past, .head whole (List.append_nil _).symm (by simp [syncFulls, noop])⟩
  | committed id n out u external extent handled fits =>
    have size : n = c.size := by
      obtain ⟨-, sized, -, -⟩ := overlayExtent_ok extent
      rw [sized, opcode, emittable.size]
      rfl
    have syncs := handlerOf_syncFulls handled (builtin_of_syncFull inv initialized extent)
    rw [syncFulls_congr ((encodeCmd_op i).trans opcode)] at syncs
    rw [(handlerOf_writes handled).1, size]
    exact ⟨q, ringContents_of_sameRing (s := { s with rpos := s.rpos + c.size }) (by constructor <;> rfl) past,
      .head whole rfl syncs⟩

/-- The terminator at the cursor consumes the signal or idles the consumer (R262). -/
theorem consumes_terminator {s t : State} {bs rest : List Byte} {i : Instr} (h : RingContents s [])
    (run : s.cstate = .run) (words : ringReads s s.cbuf s.rpos 1 = .ok [0]) (buffer : s.cbuf = s.active)
    (fetched : fetch s = .ok bs) (decoded : decode (decodeSize s) bs = .ok (i, rest)) (executed : exec i s = .next t) :
    ∃ q', RingContents t q' ∧ Consumes s t bs [] q' := by
  have lc := started_of_run h run
  have opcode : i.opcode = 0x00#8 :=
    fetched_opcode (c := ⟨0, []⟩) ((opSize_builtin (by decide)).trans (by decide)) words fetched decoded
  cases exec_outcome executed with
  | signalled =>
    exact ⟨[], { h with
      behind := fun _ atOther => absurd buffer atOther
      commands := fun _ inRing => nomatch inRing
      idle := fun _ idle => nomatch run.symm.trans idle }, .nothing rfl⟩
  | paused _ _ noSignal =>
    have position := (h.here (by rw [lc]; decide) buffer).1
    exact ⟨[], ringContents_empty rfl noSignal buffer position h.terminator, .nothing rfl⟩
  | raised code info => exact ⟨[], ringContents_of_sameRing (by constructor <;> simp) h, .nothing (by simp)⟩
  | stalled => exact ⟨[], h, .nothing rfl⟩
  | skipped _ command | jumped _ command =>
    rw [command] at opcode
    cases opcode
  | committed id n out u external => exact absurd (by rw [opcode]; decide) external

/-- The JUMP at the end of the old buffer leads to the start of the active one (R264). -/
theorem consumes_jump {s t : State} {bs rest : List Byte} {i : Instr} {q : List Cmd} (h : RingContents s q)
    (words : ringReads s s.cbuf s.rpos 1 = .ok [jumpWord s.params s.active])
    (past : RingContents { s with cbuf := s.cbuf.other, rpos := 0 } q) (fetched : fetch s = .ok bs)
    (decoded : decode (decodeSize s) bs = .ok (i, rest)) (executed : exec i s = .next t) :
    ∃ q', RingContents t q' ∧ Consumes s t bs q q' := by
  have jump : (⟨jumpWord s.params s.active, []⟩ : Cmd).op = 0x02#8 := encodeCmd_op (.jump _)
  have opcode : i.opcode = 0x02#8 :=
    (fetched_opcode (c := ⟨jumpWord s.params s.active, []⟩)
      (by rw [jump, opSize_builtin (by decide)]; rfl) words fetched decoded).trans jump
  refine ⟨q, ?_⟩
  cases exec_outcome executed with
  | signalled _ command | paused _ command | skipped _ command =>
    rw [command] at opcode
    cases opcode
  | jumped => exact ⟨past, .nothing rfl⟩
  | raised code info => exact ⟨ringContents_of_sameRing (by constructor <;> simp) h, .nothing (by simp)⟩
  | stalled => exact ⟨h, .nothing rfl⟩
  | committed id n out u external => exact absurd (by rw [opcode]; decide) external

/-- Every step of a running consumer keeps the ring invariant (R170, R171). -/
theorem ringInv_consumer {s t : State} {bs rest : List Byte} {i : Instr} {q : List Cmd} (inv : StateInv s)
    (h : RingInv s q) (run : s.cstate = .run) (fetched : fetch s = .ok bs)
    (decoded : decode (decodeSize s) bs = .ok (i, rest)) (executed : exec i s = .next t) :
    ∃ q', RingInv t q' ∧ Consumes s t bs q q' := by
  obtain ⟨contents, shape⟩ := ringInv_iff.mp h
  have notDrained : drained s ≠ true := by simp [drained, run]
  have shapeT : QueueShape t := by
    have frame := exec_frame executed
    exact queueShape_of_sameQueue (by constructor <;> rw [frame]) (fun isDrained => absurd isDrained notDrained) shape
  obtain ⟨q', contentsT, consumes⟩ : ∃ q', RingContents t q' ∧ Consumes s t bs q q' := by
    cases faces_of_run contents run with
    | terminator words buffer => exact consumes_terminator contents run words buffer fetched decoded executed
    | jump words past => exact consumes_jump contents words past fetched decoded executed
    | command words emittable past =>
      exact consumes_command inv contents run words emittable past fetched decoded executed
  exact ⟨q', ringInv_iff.mpr ⟨contentsT, shapeT⟩, consumes⟩

end Sys2Proof.Proofs
end

section
/-! The fence invariant (60_exceptions.md R425, 10_state.md R53), and with it a safe run: each step moves a SYNC_FULL
from PQ to the ring, from the ring to RZ_Q, from RZ_Q to the pending completions, or retires it with its fence. -/
namespace Sys2Proof.Proofs

open Sys2Proof Sys2Proof.Machine

/-! ### The ring invariant along the other steps -/

theorem ringInv_of_same {s t : State} {q : List Cmd} (ring : SameRing s t) (queue : SameQueue s t)
    (stays : drained s = true → drained t = true) (h : RingInv s q) : RingInv t q := by
  obtain ⟨contents, shape⟩ := ringInv_iff.mp h
  exact ringInv_iff.mpr ⟨ringContents_of_sameRing ring contents, queueShape_of_sameQueue queue stays shape⟩

theorem ringInv_takeTurn {s : State} {q : List Cmd} (h : RingInv s q) : RingInv (takeTurn s) q :=
  ringInv_of_same (by constructor <;> simp) (by constructor <;> simp) (by simp [drained]) h

theorem ringInv_raise {s : State} {q : List Cmd} (h : RingInv s q) (a : Agent) (code : FaultCode) (info : List Word) :
    RingInv (raise s a code info) q :=
  ringInv_of_same (by constructor <;> simp) (by constructor <;> simp) (by simp [drained]) h

/-- A drained block has nothing for RASTERIZER (70_reset_and_hazards.md R478). -/
theorem ringInv_rasterizer {s t : State} {q : List Cmd} (h : RingInv s q) (outcome : RasterizerOutcome s t) :
    RingInv t q := by
  cases outcome with
  | rests => exact h
  | completes head =>
    have notDrained : drained s ≠ true := by simp [drained, head]
    exact ringInv_of_same (by constructor <;> rfl) (by constructor <;> rfl) (fun done => absurd done notDrained) h

/-- A drained block has nothing for FENCE_IRQ (R478). -/
theorem ringInv_fenceIrq {s t : State} {q : List Cmd} (h : RingInv s q) (outcome : FenceOutcome s t) : RingInv t q := by
  cases outcome with
  | rests => exact h
  | services pending =>
    have notDrained : drained s ≠ true := by simp [drained, pending]
    exact ringInv_of_same (by constructor <;> rfl) (by constructor <;> rfl) (fun done => absurd done notDrained) h

/-! ### The fence invariant -/

@[simp] theorem syncFulls_append (cs ds : List Cmd) : syncFulls (cs ++ ds) = syncFulls cs + syncFulls ds :=
  List.countP_append

theorem syncFulls_cons (c : Cmd) (cs : List Cmd) : syncFulls (c :: cs) = syncFulls [c] + syncFulls cs :=
  syncFulls_append [c] cs

theorem wordOfNat_succ (n : Nat) : wordOfNat (n + 1) = wordOfNat n + 1 := BitVec.ofNat_add n 1

/-- The elements that FenceInv reads, PQ apart, are the same in both states. -/
structure SameFences (s t : State) : Prop where
  fenceQ : t.fenceQ = s.fenceQ
  fenceIssued : t.fenceIssued = s.fenceIssued
  fenceDone : t.fenceDone = s.fenceDone
  irqPending : t.irqPending = s.irqPending

/-- A step that leaves the fences and PQ alone keeps the invariant when it loses no SYNC_FULL on its way to RZ_Q. -/
theorem fenceInv_of_same {s t : State} {q q' : List Cmd} (h : FenceInv s q) (same : SameFences s t) (pq : t.pq = s.pq)
    (moved : syncFulls (t.rzQ ++ q') = syncFulls (s.rzQ ++ q)) : FenceInv t q' where
  entries := by
    rw [same.fenceQ, same.irqPending, pq, syncFulls_append, moved, ← syncFulls_append]
    exact h.entries
  counters := by
    rw [same.fenceQ, same.fenceIssued, same.fenceDone]
    exact h.counters
  waiting := by
    rw [pq, same.fenceIssued]
    exact h.waiting
  waitLast := by
    rw [pq]
    exact h.waitLast

theorem fenceInv_takeTurn {s : State} {q : List Cmd} (h : FenceInv s q) : FenceInv (takeTurn s) q :=
  fenceInv_of_same h (by constructor <;> simp) (by simp) (by simp)

theorem fenceInv_raise {s : State} {q : List Cmd} (h : FenceInv s q) (a : Agent) (code : FaultCode) (info : List Word) :
    FenceInv (raise s a code info) q :=
  fenceInv_of_same h (by constructor <;> simp) (by simp) (by simp)

theorem fenceInv_rasterizer {s t : State} {q : List Cmd} (h : FenceInv s q) (outcome : RasterizerOutcome s t) :
    FenceInv t q := by
  cases outcome with
  | rests => exact h
  | @completes c rest head =>
    have entries := h.entries
    rw [head, List.cons_append, List.cons_append, syncFulls_cons] at entries
    have completed : syncFulls [c] = if c.op = 0x29 then 1 else 0 := by simp [syncFulls, List.countP_cons]
    exact { h with
      entries := by
        show s.fenceQ.length = (if c.op = 0x29 then s.irqPending + 1 else s.irqPending)
          + syncFulls (rest ++ q ++ emitsOf s.pq)
        rw [entries, completed]
        split <;> omega }

theorem fenceInv_fenceIrq {s t : State} {q : List Cmd} (h : FenceInv s q) (outcome : FenceOutcome s t) :
    FenceInv t q := by
  cases outcome with
  | rests => exact h
  | @services n e rest pending head =>
    have entries := h.entries
    have counters := h.counters
    rw [head, List.length_cons] at entries counters
    exact { h with
      entries := by
        show rest.length = n + syncFulls (s.rzQ ++ q ++ emitsOf s.pq)
        omega
      counters := by
        show s.fenceIssued = s.fenceDone + 1 + wordOfNat rest.length
        rw [counters, wordOfNat_succ, BitVec.add_assoc, BitVec.add_comm 1] }

theorem fenceInv_consumer {s t : State} {bs : List Byte} {i : Instr} {q q' : List Cmd} (h : FenceInv s q)
    (executed : exec i s = .next t) (consumes : Consumes s t bs q q') : FenceInv t q' := by
  have frame := exec_frame executed
  refine fenceInv_of_same h (by constructor <;> rw [frame]) (by rw [frame]) ?_
  cases consumes with
  | nothing rzQ => rw [rzQ]
  | @head c q out fetched rzQ syncs =>
    rw [rzQ, syncFulls_append, syncFulls_append, syncFulls_append, syncFulls_cons c, syncs, Nat.add_assoc]

/-! ### The fences along the producer's steps -/

theorem mem_dropLast_cons {α : Type} (a : α) {x : α} {l : List α} (h : x ∈ l.dropLast) : x ∈ (a :: l).dropLast := by
  cases l with
  | nil => cases h
  | cons b l => exact List.mem_cons_of_mem a h

theorem mem_dropLast_of_cons {α : Type} {a x : α} {l : List α} (other : x ≠ a) (h : x ∈ (a :: l).dropLast) :
    x ∈ l.dropLast := by
  cases l with
  | nil => cases h
  | cons b l => exact List.mem_of_ne_of_mem other h

/-- The micro-step at the head of PQ leaves it, a SWITCH at most in its place. -/
theorem fenceInv_pop {s t : State} {q q' : List Cmd} {m : MicroStep} {rest : List MicroStep} (h : FenceInv s q)
    (head : s.pq = m :: rest) (same : SameFences s t) (rzQ : t.rzQ = s.rzQ)
    (pq : t.pq = .switch :: rest ∨ t.pq = rest)
    (moved : syncFulls q' + syncFulls (emitsOf rest) = syncFulls q + syncFulls (emitsOf s.pq)) : FenceInv t q' := by
  have emits : emitsOf t.pq = emitsOf rest := by
    obtain pq | pq := pq
    · rw [pq]
      rfl
    · rw [pq]
  have waits {k : Word} (inPq : .waitf k ∈ t.pq) : .waitf k ∈ s.pq := by
    rw [head]
    obtain pq | pq := pq
    · rw [pq] at inPq
      exact List.mem_cons_of_mem m (List.mem_of_ne_of_mem (by simp) inPq)
    · exact List.mem_cons_of_mem m (pq ▸ inPq)
  have last {k : Word} (inPq : .waitf k ∈ t.pq.dropLast) : .waitf k ∈ s.pq.dropLast := by
    rw [head]
    obtain pq | pq := pq
    · rw [pq] at inPq
      exact mem_dropLast_cons m (mem_dropLast_of_cons (by simp) inPq)
    · exact mem_dropLast_cons m (pq ▸ inPq)
  exact
    { entries := by
        rw [same.fenceQ, same.irqPending, rzQ, emits, h.entries]
        simp only [syncFulls_append]
        omega
      counters := by
        rw [same.fenceQ, same.fenceIssued, same.fenceDone]
        exact h.counters
      waiting := fun k inPq => same.fenceIssued ▸ h.waiting k (waits inPq)
      waitLast := fun k inPq => h.waitLast k (last inPq) }

/-- An issue step that queues no SYNC_FULL and no WAITF. -/
theorem fenceInv_queue {s t : State} {q : List Cmd} (h : FenceInv s q) (empty : s.pq = []) (same : SameFences s t)
    (rzQ : t.rzQ = s.rzQ) (noSync : syncFulls (emitsOf t.pq) = 0) (noWait : ∀ k, .waitf k ∉ t.pq) : FenceInv t q where
  entries := by
    have entries := h.entries
    rw [same.fenceQ, same.irqPending, rzQ, entries, empty]
    simp only [syncFulls_append, noSync]
    rfl
  counters := by
    rw [same.fenceQ, same.fenceIssued, same.fenceDone]
    exact h.counters
  waiting k inPq := absurd inPq (noWait k)
  waitLast k inPq := noWait k (List.mem_of_mem_dropLast inPq)

/-- EMITs of writable commands queue no SYNC_FULL and no WAITF (42_encoder_autosync.md R211). -/
theorem fenceInv_writable {s t : State} {q : List Cmd} (h : FenceInv s q) (empty : s.pq = []) (same : SameFences s t)
    (rzQ : t.rzQ = s.rzQ) (queue : EmitsWritable s t.pq) : FenceInv t q := by
  refine fenceInv_queue h empty same rzQ (List.countP_eq_zero.mpr fun c toEmit => ?_) fun k inPq => ?_
  · obtain ⟨clr, use, inPq⟩ := mem_emitsOf.mp toEmit
    obtain ⟨d, _, _, emit, writable⟩ := queue _ inPq
    cases emit
    simpa using writable.syncFull
  · obtain ⟨_, _, _, emit, -⟩ := queue _ inPq
    cases emit

theorem fenceInv_issue {s t : State} {q : List Cmd} (ring : RingInv s q) (h : FenceInv s q) (empty : s.pq = [])
    (outcome : IssueOutcome s t) : FenceInv t q := by
  cases outcome with
  | inits lc =>
    obtain ⟨rfl, -⟩ := ring.notStarted (by rw [lc]; decide)
    exact { resetWith_fenceInv s.params with }
  | closes => exact fenceInv_queue h empty (by constructor <;> rfl) rfl rfl (by simp)
  | registers | binds | starts | reserves | stores | configures => exact { h with }
  | publishes c lc size writable =>
    exact fenceInv_writable h empty (by constructor <;> rfl) rfl (emitsWritable_singleton writable 0 0)
  | writes p a lc closed queue => exact fenceInv_writable h empty (by constructor <;> rfl) rfl queue
  | fences e waits lc closed kind =>
    have entries := h.entries
    rw [empty] at entries
    have emits : emitsOf (.emit syncFullCmd allMask 0 :: waits) = [syncFullCmd] := by
      obtain rfl | rfl := kind <;> rfl
    exact
      { entries := by
          show (s.fenceQ ++ [e]).length = _
          rw [List.length_append, entries]
          simp only [syncFulls_append, emits]
          rfl
        counters := by
          show s.fenceIssued + 1 = s.fenceDone + wordOfNat (s.fenceQ ++ [e]).length
          rw [List.length_append, List.length_singleton, wordOfNat_succ, ← BitVec.add_assoc, h.counters]
        waiting := fun k inPq => by
          obtain rfl | rfl := kind
          · simp at inPq
          · simpa using inPq
        waitLast := fun k => by
          obtain rfl | rfl := kind <;> simp }

theorem fenceInv_producer {s t : State} {q : List Cmd} (inv : StateInv s) (ring : RingInv s q) (h : FenceInv s q)
    (outcome : ProducerOutcome s t) : FenceInv t (q ++ emitted s.pq) := by
  obtain ⟨contents, shape⟩ := ringInv_iff.mp ring
  cases outcome with
  | rests noEmit =>
    rw [noEmit, List.append_nil]
    exact h
  | @emits c clr use rest t head emit =>
    have pending : s.switchPending = false := shape.pending_of_head (by simp [head])
    obtain ⟨-, -, after⟩ := emitCommand_ok emit
    refine fenceInv_pop h head (by constructor <;> rw [after]) (by rw [after]) ?_ ?_
    · exact (emitCommand_pq (s := { s with pq := rest }) pending emit).imp And.right And.right
    · rw [head]
      show syncFulls (q ++ [c]) + syncFulls (emitsOf rest) = syncFulls q + syncFulls (c :: emitsOf rest)
      rw [syncFulls_append, syncFulls_cons c (emitsOf rest), Nat.add_assoc]
  | @switches rest t head guard switch =>
    obtain ⟨-, -, -, rfl⟩ := switchBuffer_ok switch
    refine fenceInv_pop h head (by constructor <;> rfl) rfl (.inr rfl) ?_
    rw [head]
    simp [emitted, emitsOf]
  | @passes m rest head guard =>
    refine fenceInv_pop h head (by constructor <;> rfl) rfl (.inr rfl) ?_
    rw [head]
    obtain ⟨k, rfl⟩ | ⟨rfl, -⟩ := guard <;> simp [emitted, emitsOf]
  | @commits rest head =>
    have nothing : q ++ emitted s.pq = [] := by
      rw [head, empty_of_closeCommit inv contents shape head]
      rfl
    rw [nothing]
    exact { resetWith_fenceInv s.params with }
  | @issues op ops t empty host outcome =>
    have taken : RingInv { s with hostOps := ops } q :=
      ringInv_of_same (s := s) (by constructor <;> rfl) (by constructor <;> rfl) id ring
    have noEmit : emitted s.pq = [] := by rw [empty]; rfl
    rw [noEmit, List.append_nil]
    exact fenceInv_issue (s := { s with hostOps := ops }) taken { h with } empty outcome

/-! ### Safe runs -/

/-- One step of a safe run (R170, R425). -/
theorem runInv_step {s t : State} (h : RunInv s) (next : step s = .next t) : RunInv t := by
  obtain ⟨inv, q, ring, fences⟩ := h
  have turnInv := stateInv_takeTurn inv
  have turnRing := ringInv_takeTurn ring
  have turnFences := fenceInv_takeTurn fences
  refine ⟨stateInv_step inv next, ?_⟩
  cases step_outcome next with
  | powerOn => exact ⟨[], ringInv_uninit rfl rfl rfl rfl, { resetWith_fenceInv (takeTurn s).params with }⟩
  | raised a code info => exact ⟨q, ringInv_raise turnRing a code info, fenceInv_raise turnFences a code info⟩
  | producer outcome =>
    exact ⟨_, ringInv_producer turnInv turnRing outcome, fenceInv_producer turnInv turnRing turnFences outcome⟩
  | idles => exact ⟨q, turnRing, turnFences⟩
  | consumer run fetched decoded executed =>
    obtain ⟨q', ringT, consumes⟩ := ringInv_consumer turnInv turnRing (by simpa using run) fetched decoded executed
    exact ⟨q', ringT, fenceInv_consumer turnFences executed consumes⟩
  | rasterizer outcome => exact ⟨q, ringInv_rasterizer turnRing outcome, fenceInv_rasterizer turnFences outcome⟩
  | fenceIrq outcome => exact ⟨q, ringInv_fenceIrq turnRing outcome, fenceInv_fenceIrq turnFences outcome⟩

/-- Settles O53: the three invariants together are kept, agent by agent. -/
theorem safeRunIsKept : Obligations.SafeRunIsKept := fun _ _ h next => runInv_step h next

end Sys2Proof.Proofs
end

section
/-! The decoder on the bytes of a command, said once (30_encoding.md R112): the words are read big-endian (20_memory.md
R80), the size column says how many there are, and the row of the opcode map cuts them into fields. The sample words of
O3 are instances. -/
namespace Sys2Proof.Proofs

open Sys2Proof

theorem takeWord_words {c : Cmd} {bs rest : List Byte} (bytes : bs = bytesOfWords c.words ++ rest) :
    takeWord bs = some (c.w0, bytesOfWords c.rest ++ rest) := by
  rw [bytes, Cmd.words, bytesOfWords, List.append_assoc]
  exact takeWord_bytesOfWord _ _

/-- The bytes of a command whose opcode has the command's size decode to the command's row, and nothing after it is
read. -/
theorem decode_words {size : Byte → Option Nat} {c : Cmd} {i : Instr} {bs rest : List Byte}
    (bytes : bs = bytesOfWords c.words ++ rest) (sized : size c.op = some c.size)
    (row : instrOf c.op c.a24 c.rest = some i) : decode size bs = .ok (i, rest) := by
  simp only [Cmd.op, Cmd.a24, Cmd.size] at sized row
  simp only [decode, takeWord_words bytes, sized, takeWords_bytesOfWords, row]

/-- An opcode of size 0 is rejected by name, whatever follows it (R120). -/
theorem decode_invalid {size : Byte → Option Nat} {c : Cmd} {bs rest : List Byte}
    (bytes : bs = bytesOfWords c.words ++ rest) (invalid : size c.op = some 0) :
    decode size bs = .error (.invalidOpcode c.op) := by
  simp only [Cmd.op] at invalid
  simp only [decode, takeWord_words bytes, invalid, Cmd.op]

/-- Settles O3: each byte string is the big-endian form of the words written out here, and the size and the row of
their opcode give the command. -/
theorem decodingOfSampleWords : Obligations.DecodingOfSampleWords := by
  refine ⟨?noop, ?jump, ?setLookupAddress, ?setColorImageDyn, ?modifyOtherModes, ?textureRectangle, ?setScissor,
    ?fillRectangle, ?invalid⟩
  case noop => exact decode_words (c := ⟨0x01000000, []⟩) (by decide) (by decide) (by decide)
  case jump => exact decode_words (c := ⟨0x02002000, []⟩) (by decide) (by decide) (by decide)
  case setLookupAddress =>
    exact decode_words (c := ⟨0x10000000, [0x30100000]⟩) (by decide) (by decide) (by decide)
  case setColorImageDyn =>
    exact decode_words (c := ⟨0x11100140, [0x30000800]⟩) (by decide) (by decide) (by decide)
  case modifyOtherModes =>
    exact decode_words (c := ⟨0x14000001, [0x0000FFFF, 0x12345678]⟩) (by decide) (by decide) (by decide)
  case textureRectangle =>
    exact decode_words (c := ⟨0x24050050, [0x01000000, 0x00000000, 0x04000400]⟩) (by decide) (by decide) (by decide)
  case setScissor => exact decode_words (c := ⟨0x2D028028, [0x00078078]⟩) (by decide) (by decide) (by decide)
  case fillRectangle => exact decode_words (c := ⟨0x36078078, [0x00028028]⟩) (by decide) (by decide) (by decide)
  case invalid => exact decode_invalid (c := ⟨0x31000000, [0x00000000]⟩) (rest := []) (by decide) (by decide)

end Sys2Proof.Proofs
end

section
/-! The layouts of the encoding tables (30_encoding.md R117). A word is a concatenation of fields exactly when each field
of the word is the one written there, so one lemma for each layout serves the decoder, which cuts a word into fields,
and the encoder, which lays them side by side. -/
namespace Sys2Proof.Proofs

open Sys2Proof

/-! ### Fields of any width -/

/-- A field of a field. -/
theorem field_field {n lo len lo' len' : Nat} (w : BitVec n) (within : lo + len ≤ len') :
    field lo len (field lo' len' w) = field (lo' + lo) len w := by
  apply BitVec.eq_of_getLsbD_eq
  intro k inField
  have inner : lo + k < len' := by omega
  simp [field, inField, inner, Nat.add_assoc]

/-- Two neighbouring fields side by side are one field. -/
theorem field_append_field {n hi lo m k : Nat} (w : BitVec n) (adjacent : hi = lo + k) :
    field hi m w ++ field lo k w = field lo (m + k) w :=
  BitVec.extractLsb'_append_extractLsb'_eq_extractLsb' adjacent

section
variable {k l m n : Nat} {v : BitVec k} {x : BitVec l} {y : BitVec m} {z : BitVec n}

theorem append_eq_iff {w : BitVec (m + n)} : y ++ z = w ↔ field n m w = y ∧ field 0 n w = z := by
  constructor
  · rintro rfl
    exact ⟨field_append_high y z, field_append_low y z⟩
  · rintro ⟨rfl, rfl⟩
    rw [field_append_field w (Nat.zero_add n).symm, field_full]

theorem append₃_eq_iff {w : BitVec (l + m + n)} :
    x ++ y ++ z = w ↔ field (n + m) l w = x ∧ field n m w = y ∧ field 0 n w = z := by
  rw [append_eq_iff, eq_comm (b := x ++ y), append_eq_iff, field_field w (by omega), field_field w (by omega),
    and_assoc]
  rfl

theorem append₄_eq_iff {w : BitVec (k + l + m + n)} :
    v ++ x ++ y ++ z = w ↔ field (n + (m + l)) k w = v ∧ field (n + m) l w = x ∧ field n m w = y ∧ field 0 n w = z := by
  rw [append_eq_iff, eq_comm (b := v ++ x ++ y), append₃_eq_iff, field_field w (by omega), field_field w (by omega),
    field_field w (by omega), and_assoc, and_assoc]
  rfl

end

/-! ### The layouts of R117, by the widths of their fields from the highest bit down -/

section
variable {w : Word}

theorem layout_8_24 {a : BitVec 8} {b : BitVec 24} : a ++ b = w ↔ field 24 8 w = a ∧ field 0 24 w = b := append_eq_iff

theorem layout_16_16 {a b : BitVec 16} : a ++ b = w ↔ field 16 16 w = a ∧ field 0 16 w = b := append_eq_iff

theorem layout_8_12_12 {a : BitVec 8} {b c : BitVec 12} :
    a ++ b ++ c = w ↔ field 24 8 w = a ∧ field 12 12 w = b ∧ field 0 12 w = c := append₃_eq_iff

theorem layout_8_23_1 {a : BitVec 8} {b : BitVec 23} {c : BitVec 1} :
    a ++ b ++ c = w ↔ field 24 8 w = a ∧ field 1 23 w = b ∧ field 0 1 w = c := append₃_eq_iff

theorem layout_4_4_24 {a b : BitVec 4} {c : BitVec 24} :
    a ++ b ++ c = w ↔ field 28 4 w = a ∧ field 24 4 w = b ∧ field 0 24 w = c := append₃_eq_iff

theorem layout_5_3_24 {a : BitVec 5} {b : BitVec 3} {c : BitVec 24} :
    a ++ b ++ c = w ↔ field 27 5 w = a ∧ field 24 3 w = b ∧ field 0 24 w = c := append₃_eq_iff

theorem layout_8_5_9_10 {a : BitVec 8} {b : BitVec 5} {c : BitVec 9} {d : BitVec 10} :
    a ++ b ++ c ++ d = w ↔ field 24 8 w = a ∧ field 19 5 w = b ∧ field 10 9 w = c ∧ field 0 10 w = d := append₄_eq_iff

theorem layout_5_3_12_12 {a : BitVec 5} {b : BitVec 3} {c d : BitVec 12} :
    a ++ b ++ c ++ d = w ↔ field 27 5 w = a ∧ field 24 3 w = b ∧ field 12 12 w = c ∧ field 0 12 w = d := append₄_eq_iff

end

end Sys2Proof.Proofs
end

section
/-! The round trips of decoder and encoder (30_encoding.md R110 to R117, R122): the opcode map and the encoder are
inverse on the words of a command, and the byte layout adds nothing. -/
namespace Sys2Proof.Proofs

open Sys2Proof

theorem wellFormed_iff {size : Byte → Option Nat} {maxCmd : Nat} {i : Instr} :
    i.wellFormed size maxCmd = true ↔ size i.opcode = some i.length ∧ i.length ≤ maxCmd := by
  simp only [Instr.wellFormed, Bool.and_eq_true, decide_eq_true_eq]

/-! ### From the command to its words and back -/

/-- Every opcode of selectors 4 to 15 is a client function (R123). -/
theorem instrOf_client {op : Byte} (client : 0x40 ≤ op.toNat) (a24 : BitVec 24) (args : List Word) :
    instrOf op a24 args = clientInstr (op.toNat / 16) (field 0 4 op) a24 args := by
  unfold instrOf
  split
  case h_36 => rfl
  all_goals omega

theorem instrOf_selector_append {sel : BitVec 4} (client : 4 ≤ sel.toNat) (fn : BitVec 4) (a24 : BitVec 24)
    (args : List Word) : instrOf (sel ++ fn) a24 args = clientInstr sel.toNat fn a24 args := by
  have value : (sel ++ fn).toNat = 16 * sel.toNat + fn.toNat := by
    rw [BitVec.toNat_append, ← Nat.shiftLeft_add_eq_or_of_lt fn.isLt, Nat.shiftLeft_eq, Nat.mul_comm]
  have small : fn.toNat < 16 := fn.isLt
  rw [instrOf_client (by omega), field_append_low, show (sel ++ fn).toNat / 16 = sel.toNat by omega]

/-- The opcode map reads every command from the words the encoder writes: a client command by its selector, every other
one by its opcode's row, whose fields are those of the word's layout. -/
theorem instrOf_encodeCmd (i : Instr) : instrOf (encodeCmd i).op (encodeCmd i).a24 (encodeCmd i).rest = some i := by
  rw [encodeCmd_op]
  cases i
  case clientSel4 | clientSel5 | clientSel6 | clientSel7 | clientSel8 | clientSel9 | clientSel10 | clientSel11
    | clientSel12 | clientSel13 | clientSel14 | clientSel15 =>
    simp only [Instr.opcode, encodeCmd, Cmd.a24]
    rw [instrOf_selector_append (by decide), field_append_low]
    rfl
  all_goals
    simp only [instrOf, Instr.opcode, BitVec.toNat_ofNat, Nat.reducePow, Nat.reduceMod]
    simp only [encodeCmd, Cmd.a24, withNone, withOne, withTwo, withThree, field_field, Nat.reduceAdd, Nat.reduceLeDiff,
      layout_8_24.mp rfl, layout_16_16.mp rfl, layout_8_12_12.mp rfl, layout_8_23_1.mp rfl, layout_4_4_24.mp rfl,
      layout_5_3_24.mp rfl, layout_8_5_9_10.mp rfl, layout_5_3_12_12.mp rfl]

/-- The encoder writes back the words from which the opcode map reads a command: the opcode and the fields cut from
word 0, side by side, are word 0, and the fields cut from an argument word are that word. -/
theorem encodeCmd_of_instrOf {c : Cmd} {i : Instr} (h : instrOf c.op c.a24 c.rest = some i) : encodeCmd i = c := by
  have opcode : c.op = i.opcode := (instrOf_opcode h).symm
  obtain ⟨w0, args⟩ := c
  simp only [Cmd.op, Cmd.a24] at h opcode
  unfold instrOf at h
  split at h
  case h_36 =>
    unfold clientInstr at h
    split at h
    case h_13 => cases h
    all_goals
      cases h
      exact congrArg (Cmd.mk · args) (layout_8_24.mpr ⟨opcode, rfl⟩)
  all_goals
    simp only [withNone, withOne, withTwo, withThree] at h
    split at h
    · cases h
      rw [Instr.opcode] at opcode
      simp [encodeCmd, opcode, field_field, layout_8_24, layout_16_16, layout_8_12_12, layout_8_23_1, layout_4_4_24,
        layout_5_3_24, layout_8_5_9_10, layout_5_3_12_12]
    · cases h

/-! ### From the bytes to the command -/

/-- What the decoder answers, said once: the bytes of a command of its opcode's size, which the opcode map reads. -/
theorem decode_eq_ok {size : Byte → Option Nat} {bs rest : List Byte} {i : Instr} (h : decode size bs = .ok (i, rest)) :
    ∃ c : Cmd, bs = bytesOfWords c.words ++ rest ∧ size c.op = some c.size ∧ instrOf c.op c.a24 c.rest = some i := by
  unfold decode at h
  split at h
  · cases h
  · next w0 bs' word =>
    split at h
    · cases h
    · cases h
    · next n sized =>
      split at h
      · cases h
      · next args bs'' words =>
        split at h
        · cases h
        · next row =>
          cases h
          obtain ⟨rfl, rfl⟩ := takeWords_eq_some words
          refine ⟨⟨w0, args⟩, ?_, sized, row⟩
          rw [takeWord_eq_some word, Cmd.words, bytesOfWords, List.append_assoc]

/-- Settles O1: the bytes are those of the encoded words, and the opcode map reads the command from them. -/
theorem decodeOfEncode : Obligations.DecodeOfEncode := by
  intro size maxCmd i bs wellFormed
  obtain ⟨sized, -⟩ := wellFormed_iff.mp wellFormed
  obtain ⟨length, opcode⟩ := encodedSize i
  exact decode_words (c := encodeCmd i) rfl (by rw [opcode, length, sized]) (instrOf_encodeCmd i)

/-- Settles O2: the words the decoder took are those the encoder writes, so they have the command's opcode and length. -/
theorem encodeOfDecode : Obligations.EncodeOfDecode := by
  intro size bs rest i decoded
  obtain ⟨c, bytes, sized, row⟩ := decode_eq_ok decoded
  obtain rfl : encodeCmd i = c := encodeCmd_of_instrOf row
  obtain ⟨length, opcode⟩ := encodedSize i
  exact ⟨bytes.symm, by rw [← opcode, ← length, sized]⟩

end Sys2Proof.Proofs
end

section
/-! The consumer's step on a command that stands at its position (43_consumer_dispatch.md R260): no decode check stops
it, the decoder reads the command, and `exec` runs it. -/
namespace Sys2Proof.Proofs

open Sys2Proof Sys2Proof.Machine

/-- The size checks of R260 let a command pass that has its opcode's size and, unless it is internal, ends before the
guard word. -/
theorem commandSize_eq {s : State} {op : Byte} {n : Nat} (sized : decodeSize s op = some (n + 1))
    (fits : selOf op = 0 ∨ s.rpos + (n + 1) ≤ s.params.cap) : commandSize s op = .ok (n + 1) := by
  unfold decodeSize at sized
  unfold commandSize
  split at sized
  · next internal =>
    have size : builtinSize op = n + 1 := Option.some.inj sized
    simp only [internal, size, if_true, Nat.add_one_ne_zero, if_false]
  · next external =>
    split at sized
    · cases sized
    · next id bound =>
      simp only [external, if_false, overlayExtent_eq bound sized (fits.resolve_left external)]

/-- The consumer fetches the words of such a command. -/
theorem fetch_eq {s : State} {c : Cmd} (sized : decodeSize s c.op = some c.size)
    (words : ringReads s s.cbuf s.rpos c.size = .ok c.words)
    (fits : selOf c.op = 0 ∨ s.rpos + c.size ≤ s.params.cap) : fetch s = .ok (bytesOfWords c.words) := by
  obtain ⟨first, -⟩ := ringReads_cons.mp words
  have size : commandSize s (field 24 8 c.w0) = .ok c.size := commandSize_eq sized fits
  simp only [fetch, first, size, words]

/-- A running consumer executes the well-formed command whose words stand at its position. -/
theorem consumerStep_eq_exec {s : State} {i : Instr} (run : s.cstate = .run)
    (wellFormed : i.wellFormed (decodeSize s) s.params.maxCmd = true)
    (words : ringReads s s.cbuf s.rpos i.length = .ok (encode i))
    (fits : selOf i.opcode = 0 ∨ s.rpos + i.length ≤ s.params.cap) : consumerStep s = exec i s := by
  have fetched : fetch s = .ok (encodeBytes i) := by
    obtain ⟨sized, -⟩ := wellFormed_iff.mp wellFormed
    obtain ⟨length, opcode⟩ := encodedSize i
    rw [← length] at words fits sized
    rw [← opcode] at fits sized
    exact fetch_eq sized words fits
  have decoded : decode (decodeSize s) (encodeBytes i) = .ok (i, []) := by
    simpa only [List.append_nil] using decodeOfEncode _ _ i [] wellFormed
  simp only [consumerStep, run, fetched, decoded]

theorem decodeSize_takeTurn (s : State) : decodeSize (takeTurn s) = decodeSize s := by
  funext op
  simp only [decodeSize, opSize, takeTurn_selMap, takeTurn_ovlDesc]

/-- Settles O4: the turn taken changes nothing the consumer reads, so its step is that of the command at its position. -/
theorem stepRunsDecodedInstruction : Obligations.StepRunsDecodedInstruction := by
  intro s i turn run wellFormed words fits
  rw [step_consumer turn]
  apply consumerStep_eq_exec
  · rw [takeTurn_cstate, run]
  · rw [decodeSize_takeTurn, takeTurn_params, wellFormed]
  · rw [takeTurn_cbuf, takeTurn_rpos, ringReads_congr (takeTurn_params s) (takeTurn_mem s), words]
  · rw [takeTurn_rpos, takeTurn_params]
    exact fits

end Sys2Proof.Proofs
end

section
/-! The ring is a FIFO (40_ring_buffer.md R170 to R172): each agent's step, with the list of unread commands after
it. -/
namespace Sys2Proof.Proofs

open Sys2Proof Sys2Proof.Machine

/-! ### The command a consumer step executes (43_consumer_dispatch.md R260) -/

/-- A size that the decoder uses is the opcode's (30_encoding.md R112). -/
theorem opSize_of_decodeSize {s : State} {op : Byte} {n : Nat} (h : decodeSize s op = some n) :
    opSize s op = some n := by
  unfold decodeSize at h
  split at h
  · next internal => rw [opSize_builtin (by rw [internal]; decide), h]
  · split at h
    · cases h
    · exact h

/-- Lists of as many words with the same bytes at the front are the same. -/
theorem words_eq_of_bytesOfWords {us vs : List Word} {bs : List Byte} (length : us.length = vs.length)
    (bytes : bytesOfWords us = bytesOfWords vs ++ bs) : us = vs := by
  have left := takeWords_bytesOfWords us []
  have right := takeWords_bytesOfWords vs bs
  rw [List.append_nil, bytes, length, right] at left
  exact (congrArg Prod.fst (Option.some.inj left)).symm

/-- The command decoded from the words of a command of its opcode's size is that command. -/
theorem encodeCmd_of_decode {s : State} {c : Cmd} {i : Instr} {rest : List Byte} (size : opSize s c.op = some c.size)
    (decoded : decode (decodeSize s) (bytesOfWords c.words) = .ok (i, rest)) : encodeCmd i = c := by
  have opcode : i.opcode = c.op := decode_opcode decoded
  obtain ⟨d, bytes, sized, row⟩ := decode_eq_ok decoded
  obtain rfl : encodeCmd i = d := encodeCmd_of_instrOf row
  have sizes : c.size = (encodeCmd i).size := by
    rw [encodeCmd_op, opcode] at sized
    exact Option.some.inj (size.symm.trans (opSize_of_decodeSize sized))
  have words : c.words = (encodeCmd i).words := words_eq_of_bytesOfWords sizes bytes
  exact congrArg (fun ws => Cmd.mk (ws.headD 0) ws.tail) words.symm

/-! ### The unread commands after each agent's step -/

/-- EMIT completes or makes no access: it raises no fault of the block (40_ring_buffer.md R160). -/
theorem emitCommand_ne_raise {s : State} {c : Cmd} {code : FaultCode} {info : List Word} :
    emitCommand s c ≠ .error (.raise code info) := by
  unfold emitCommand
  split <;> simp

theorem emitted_eq_nil_of_raise {s : State} {code : FaultCode} {info : List Word}
    (h : producerStep s = .error (.raise code info)) : emitted s.pq = [] := by
  unfold producerStep at h
  split at h
  · next m rest head =>
    rw [head]
    cases m with
    | emit c clr use => exact absurd h emitCommand_ne_raise
    | _ => rfl
  · next empty => rw [empty]; rfl

/-- A PRODUCER step appends the command it emits, if it emits one (R160, R170). -/
theorem ringInv_producerStep {s t : State} {q : List Cmd} (inv : StateInv s) (h : RingInv s q)
    (next : settle .producer s (producerStep s) = .next t) : RingInv t (q ++ emitted s.pq) := by
  obtain ok | ⟨code, info, raised, rfl⟩ := settle_next next
  · exact ringInv_producer inv h (producer_outcome ok)
  · rw [emitted_eq_nil_of_raise raised, List.append_nil]
    exact ringInv_raise h .producer code info

/-- A CONSUMER step executes the command at the head of the list, or leaves the list alone (R170, R278). -/
theorem ringInv_consumerStep {s t : State} {q : List Cmd} (inv : StateInv s) (h : RingInv s q)
    (next : consumerStep s = .next t) :
    ∃ q', RingInv t q'
      ∧ (q' = q ∨ ∃ c i, q = c :: q' ∧ encodeCmd i = c ∧ s.cstate = .run ∧ exec i s = .next t) := by
  have unread {r : Except Halt State} (failed : settle .consumer s r = .next t) (noNext : r ≠ .ok t) :
      RingInv t q := by
    obtain ok | ⟨code, info, -, rfl⟩ := settle_next failed
    · exact absurd ok noNext
    · exact ringInv_raise h .consumer code info
  unfold consumerStep at next
  split at next
  · cases next
    exact ⟨q, h, .inl rfl⟩
  · next run =>
    split at next
    · exact ⟨q, unread next nofun, .inl rfl⟩
    · next bs fetched =>
      split at next
      · exact ⟨q, unread next nofun, .inl rfl⟩
      · next i rest decoded =>
        obtain ⟨q', ring, consumes⟩ := ringInv_consumer inv h run fetched decoded next
        refine ⟨q', ring, ?_⟩
        cases consumes with
        | nothing => exact .inl rfl
        | @head c _ _ whole =>
          subst whole
          have size := (h.commands c List.mem_cons_self).size
          exact .inr ⟨c, i, rfl, encodeCmd_of_decode size decoded, run, next⟩

theorem ringInv_rasterizerStep {s t : State} {q : List Cmd} (h : RingInv s q)
    (next : settle .rasterizer s (rasterizerStep s) = .next t) : RingInv t q := by
  obtain ok | ⟨code, info, -, rfl⟩ := settle_next next
  · exact ringInv_rasterizer h (rasterizer_outcome ok)
  · exact ringInv_raise h .rasterizer code info

theorem ringInv_fenceStep {s t : State} {q : List Cmd} (h : RingInv s q)
    (next : settle .fenceIrq s (fenceStep s) = .next t) : RingInv t q := by
  obtain ok | ⟨code, info, -, rfl⟩ := settle_next next
  · exact ringInv_fenceIrq h (fence_outcome ok)
  · exact ringInv_raise h .fenceIrq code info

/-- Settles O52, by the agent whose turn it is. -/
theorem ringDeliversCommandsInOrder : Obligations.RingDeliversCommandsInOrder := by
  intro s t q inv h next
  have turnInv := stateInv_takeTurn inv
  have turnRing := ringInv_takeTurn h
  cases turn : nextTurn s with
  | powerOn =>
    rw [step_powerOn turn] at next
    cases next
    exact ⟨[], ringInv_uninit rfl rfl rfl rfl, rfl⟩
  | agent a =>
    cases halted : s.fault with
    | some r =>
      rw [step_halted turn halted] at next
      cases next
    | none =>
      cases a with
      | producer =>
        rw [step_producer ⟨turn, halted⟩] at next
        have ring := ringInv_producerStep turnInv turnRing next
        rw [takeTurn_pq] at ring
        refine ⟨_, ring, ?_⟩
        cases s.pq with
        | nil => exact List.append_nil q
        | cons m rest =>
          cases m with
          | emit => rfl
          | _ => exact List.append_nil q
      | consumer =>
        rw [step_consumer ⟨turn, halted⟩] at next
        rw [← takeTurn_cstate]
        exact ringInv_consumerStep turnInv turnRing next
      | rasterizer =>
        rw [step_rasterizer ⟨turn, halted⟩] at next
        exact ⟨q, ringInv_rasterizerStep turnRing next, rfl⟩
      | fenceIrq =>
        rw [step_fenceIrq ⟨turn, halted⟩] at next
        exact ⟨q, ringInv_fenceStep turnRing next, rfl⟩

end Sys2Proof.Proofs
end

section
/-! What the checks of a port operation can raise, said once (60_exceptions.md R402, R406): faults of the block, and
after the lifecycle check none of those of the table of 40_ring_buffer.md R154. -/
namespace Sys2Proof.Proofs

open Sys2Proof Sys2Proof.Machine

/-- The faults of the table of R154. -/
def lifecycleCodes : List FaultCode := [.notInit, .alreadyInit, .notStarted, .afterStart]

/-- A fault of the block, but none of the table of R154: what an operation's own checks raise. -/
def OwnFault : Halt → Prop
  | .raise code _ => code ∉ lifecycleCodes
  | .fault _ => False

theorem ownFault_of_fatal {α : Type} {code : FaultCode} {info : List Word} {e : Halt}
    (h : (fatal code info : Except Halt α) = .error e) (own : code ∉ lifecycleCodes) : OwnFault e := by
  cases h
  exact own

/-! ### Each operation's checks -/

theorem checkOpcode_error {s : State} {c : Cmd} {e : Halt} (h : checkOpcode s c = .error e) : OwnFault e := by
  unfold checkOpcode at h
  split at h
  · exact ownFault_of_fatal h (by decide)
  · split at h
    · exact ownFault_of_fatal h (by decide)
    · split at h
      · exact ownFault_of_fatal h (by decide)
      · cases h

theorem validate_error {p : Params} {c : Cmd} {e : Halt} (h : validate p c = .error e) : OwnFault e := by
  unfold validate at h
  split at h
  · exact ownFault_of_fatal h (by decide)
  · split at h
    · exact ownFault_of_fatal h (by decide)
    · split at h
      · exact ownFault_of_fatal h (by decide)
      · split at h
        · exact ownFault_of_fatal h (by decide)
        · cases h

theorem doWrite_error {s : State} {shape : Shape} {op : Byte} {a24 : BitVec 24} {args : List Word}
    {use change : HazardMask} {e : Halt} (h : doWrite s shape op a24 args use change = .error e) : OwnFault e := by
  unfold doWrite at h
  dsimp only at h
  split at h
  · next checked =>
    cases h
    exact checkOpcode_error checked
  · split at h
    · exact ownFault_of_fatal h (by decide)
    · split at h
      · next validated =>
        cases h
        exact validate_error validated
      · cases h

theorem doRegister_error {s : State} {d : DescriptorArg} {id : Option Word} {e : Halt}
    (h : doRegister s d id = .error e) : OwnFault e := by
  unfold doRegister at h
  split at h
  · exact ownFault_of_fatal h (by decide)
  · dsimp only at h
    split at h
    · split at h
      · exact ownFault_of_fatal h (by decide)
      · cases h
    · split at h
      · split at h
        · exact ownFault_of_fatal h (by decide)
        · split at h
          · exact ownFault_of_fatal h (by decide)
          · cases h
      · exact ownFault_of_fatal h (by decide)

theorem doBind_error {s : State} {id sel : Word} {e : Halt} (h : doBind s id sel = .error e) : OwnFault e := by
  unfold doBind at h
  split at h
  · split at h
    · split at h
      · exact ownFault_of_fatal h (by decide)
      · split at h
        · exact ownFault_of_fatal h (by decide)
        · cases h
    · exact ownFault_of_fatal h (by decide)
  · exact ownFault_of_fatal h (by decide)

theorem doReserve_error {s : State} {n : Word} {e : Halt} (h : doReserve s n = .error e) : OwnFault e := by
  unfold doReserve at h
  split at h
  · exact ownFault_of_fatal h (by decide)
  · cases h

theorem doStore_error {s : State} {k w : Word} {e : Halt} (h : doStore s k w = .error e) : OwnFault e := by
  unfold doStore at h
  split at h
  · exact ownFault_of_fatal h (by decide)
  · cases h

theorem doPublish_error {s : State} {e : Halt} (h : doPublish s = .error e) : OwnFault e := by
  unfold doPublish at h
  split at h
  · exact ownFault_of_fatal h (by decide)
  · split at h
    · exact ownFault_of_fatal h (by decide)
    · split at h
      · next checked =>
        cases h
        exact checkOpcode_error checked
      · cases h

theorem doConfig_error {s : State} {enable disable : Word} {e : Halt} (h : doConfig s enable disable = .error e) :
    OwnFault e := by
  unfold doConfig at h
  split at h
  · exact ownFault_of_fatal h (by decide)
  · cases h

/-- Every operation but `init`, which makes the ring accesses of R150. -/
theorem perform_error {s : State} {op : PortOp} {e : Halt} (notInit : op ≠ .init) (h : perform s op = .error e) :
    OwnFault e := by
  cases op with
  | init => exact absurd rfl notInit
  | close | start | syncPipe | syncTile | syncLoad | fence | wait => cases h
  | register => exact doRegister_error h
  | bind => exact doBind_error h
  | reserve => exact doReserve_error h
  | store => exact doStore_error h
  | publish => exact doPublish_error h
  | config => exact doConfig_error h
  | _ => exact doWrite_error h

/-! ### Ring writes inside the ring -/

/-- A write to words of a ring of valid parameters is made (20_memory.md R82). -/
theorem ringWrite_error {s : State} {b : RingBuf} {i : Nat} {ws : List Word} {f : Fault}
    (h : ringWrite s b i ws = .error f) (valid : s.params.valid = true) : s.params.cap + 1 < i + ws.length := by
  unfold ringWrite at h
  split at h
  · next outside => exact outside
  · rw [if_neg (by simp [ringFits_of_valid valid])] at h
    cases h

/-- R150: `init` raises nothing, and under valid parameters it completes. -/
theorem doInit_error {s : State} {e : Halt} (h : doInit s = .error e) :
    (∃ f, e = .fault f) ∧ s.params.valid ≠ true := by
  unfold doInit at h
  split at h
  · next f failed =>
    cases h
    exact ⟨⟨f, rfl⟩, fun valid => absurd (ringWrite_error failed valid) (by simp)⟩
  · next u clear0 =>
    obtain ⟨-, -, rfl⟩ := ringWrite_ok clear0
    split at h
    · next f failed =>
      cases h
      exact ⟨⟨f, rfl⟩, fun valid => absurd (ringWrite_error failed valid) (by simp)⟩
    · cases h

/-! ### The issue step (R149, R154, R158) -/

/-- The open-reservation check is that of R158. -/
theorem usesReservation_eq (op : PortOp) : usesReservation op = regionOperation op := by
  cases op <;> rfl

/-- R154: outside its column of the table an operation raises the fault of the cell. -/
theorem issue_refused {s : State} {op : PortOp} (refused : admits s.lc op = false) :
    issue s op = fatal (refusal s.lc op) [] := by
  simp [issue, lifecycleFault_eq, refused]

/-- R158: an open reservation refuses every other operation. -/
theorem issue_reserved {s : State} {op : PortOp} (admitted : admits s.lc op = true) (opened : s.resN ≠ 0)
    (outside : regionOperation op = false) : issue s op = fatal .reservationState [] := by
  simp [issue, lifecycleFault_eq, usesReservation_eq, admitted, opened, outside]

/-- An operation that both checks let pass makes its own checks and writes (60_exceptions.md R406). -/
theorem issue_admitted {s : State} {op : PortOp} (admitted : admits s.lc op = true)
    (inside : ¬(s.resN ≠ 0 ∧ regionOperation op = false)) : issue s op = perform s op := by
  simp only [issue, lifecycleFault_eq, usesReservation_eq, admitted, if_true, inside, if_false]

/-- What an issue step that the lifecycle state admits can end in: its own fault, or a ring access of `init` under
parameters that are not valid. -/
theorem issue_error {s : State} {op : PortOp} {e : Halt} (admitted : admits s.lc op = true)
    (h : issue s op = .error e) : OwnFault e ∨ (∃ f, e = .fault f) ∧ s.params.valid ≠ true := by
  by_cases inside : s.resN ≠ 0 ∧ regionOperation op = false
  · rw [issue_reserved admitted inside.1 inside.2] at h
    exact .inl (ownFault_of_fatal h (by decide))
  · rw [issue_admitted admitted inside] at h
    by_cases init : op = .init
    · subst init
      exact .inr (doInit_error h)
    · exact .inl (perform_error init h)

/-- Under valid parameters every issue step completes or raises a fault of the block. -/
theorem issue_ne_fault {s : State} {op : PortOp} {f : Fault} (valid : s.params.valid = true) :
    issue s op ≠ .error (.fault f) := by
  intro h
  cases admitted : admits s.lc op with
  | true =>
    obtain own | ⟨-, notValid⟩ := issue_error admitted h
    · exact own
    · exact notValid valid
  | false =>
    rw [issue_refused admitted] at h
    cases h

end Sys2Proof.Proofs
end

section
/-! A safe run makes no access outside the ring, to an unwritten byte or to an overlay without a handler
(40_ring_buffer.md R162, R172, 43_consumer_dispatch.md R265), agent by agent. -/
namespace Sys2Proof.Proofs

open Sys2Proof Sys2Proof.Machine

/-- A step that makes no such access has a next state. -/
theorem settle_completes {a : Agent} {s : State} {r : Except Halt State} (h : ∀ f, r ≠ .error (.fault f)) :
    ∃ t, settle a s r = .next t := by
  unfold settle
  split
  · exact ⟨_, rfl⟩
  · exact ⟨_, rfl⟩
  · next f => exact absurd rfl (h f)

/-! ### The producer -/

/-- EMIT completes when its command fits before the guard word (40_ring_buffer.md R160). -/
theorem emitCommand_completes {s : State} {c : Cmd} (valid : s.params.valid = true)
    (fits : s.cursor + c.size ≤ s.params.cap) : ∃ t, emitCommand s c = .ok t := by
  have inRing : s.cursor + (c.words ++ [0]).length ≤ s.params.cap + 1 := by
    simp only [Cmd.size, Cmd.words, List.length_append, List.length_cons, List.length_nil] at fits ⊢
    omega
  unfold emitCommand
  split
  · next failed => exact absurd (ringWrite_error failed valid) (Nat.not_lt.mpr inRing)
  · exact ⟨_, rfl⟩

/-- SWITCH completes when the cursor is in the ring (R165). -/
theorem switchBuffer_completes {s : State} (valid : s.params.valid = true) (cursor : s.cursor ≤ s.params.cap) :
    ∃ t, switchBuffer s = .ok t := by
  unfold switchBuffer
  split
  · next failed => exact absurd (ringWrite_error failed valid) (by simp)
  · next u clear =>
    obtain ⟨-, -, rfl⟩ := ringWrite_ok clear
    split
    · next failed => exact absurd (ringWrite_error failed valid) (by simpa using cursor)
    · exact ⟨_, rfl⟩

/-- R162: a command that may be queued fits, for the cursor of a ring with no switch pending is not past the
sentinel. -/
theorem emit_fits {s : State} {q : List Cmd} {c : Cmd} {clr use : HazardMask} {rest : List MicroStep}
    (inv : StateInv s) (ring : RingInv s q) (head : s.pq = .emit c clr use :: rest) :
    s.cursor + c.size ≤ s.params.cap := by
  have pending : s.switchPending = false := (ringInv_iff.mp ring).2.pending_of_head (by simp [head])
  have cursor := inv.sentinel pending
  have size := (ring.queued c (by rw [head]; exact List.mem_cons_self)).maxCmd
  have room := sentinel_add_maxCmd_of_valid inv.params
  omega

theorem microStep_ne_fault {s : State} {q : List Cmd} {m : MicroStep} {rest : List MicroStep} {f : Fault}
    (inv : StateInv s) (ring : RingInv s q) (head : s.pq = m :: rest) : microStep s m rest ≠ .error (.fault f) := by
  intro failed
  cases m with
  | emit c clr use =>
    have fits := emit_fits inv ring head
    obtain ⟨t, ok⟩ := emitCommand_completes (s := { s with pq := rest }) inv.params fits
    exact absurd (ok.symm.trans failed) nofun
  | switch =>
    simp only [microStep] at failed
    split at failed
    · obtain ⟨t, ok⟩ := switchBuffer_completes (s := { s with pq := rest }) inv.params inv.cursor
      exact absurd (ok.symm.trans failed) nofun
    · cases failed
  | waitf k =>
    simp only [microStep] at failed
    split at failed <;> cases failed
  | drain =>
    simp only [microStep] at failed
    split at failed <;> cases failed
  | closeCommit => cases failed

theorem producerStep_ne_fault {s : State} {q : List Cmd} {f : Fault} (inv : StateInv s) (ring : RingInv s q) :
    producerStep s ≠ .error (.fault f) := by
  unfold producerStep
  split
  · next m rest head => exact microStep_ne_fault inv ring head
  · split
    · exact nofun
    · next op ops host => exact issue_ne_fault (s := { s with hostOps := ops }) inv.params

/-! ### The consumer's fetch (43_consumer_dispatch.md R260) -/

theorem overlayExtent_ne_fault {s : State} {op : Byte} {f : Fault} : overlayExtent s op ≠ .error (.fault f) := by
  unfold overlayExtent
  split
  · exact nofun
  · dsimp only
    split
    · exact nofun
    · split <;> exact nofun

theorem commandSize_ne_fault {s : State} {op : Byte} {f : Fault} : commandSize s op ≠ .error (.fault f) := by
  unfold commandSize
  split
  · split <;> exact nofun
  · split
    · next failed =>
      intro same
      cases same
      exact overlayExtent_ne_fault failed
    · exact nofun

/-- What the consumer faces has its opcode's size and stands whole in the ring (R170, R265). -/
theorem faces_words {s : State} {q : List Cmd} (h : Faces s q) :
    ∃ c : Cmd, opSize s c.op = some c.size ∧ ringReads s s.cbuf s.rpos c.size = .ok c.words := by
  cases h with
  | terminator words => exact ⟨⟨0, []⟩, (opSize_builtin (by decide)).trans (by decide), words⟩
  | jump words =>
    have jump : (⟨jumpWord s.params s.active, []⟩ : Cmd).op = 0x02#8 := encodeCmd_op (.jump _)
    exact ⟨⟨jumpWord s.params s.active, []⟩, by rw [jump, opSize_builtin (by decide)]; rfl, words⟩
  | @command c _ words emittable => exact ⟨c, emittable.size, words⟩

/-- The consumer reads only words of the command at its position. -/
theorem fetch_ne_fault {s : State} {c : Cmd} {f : Fault} (size : opSize s c.op = some c.size)
    (words : ringReads s s.cbuf s.rpos c.size = .ok c.words) : fetch s ≠ .error (.fault f) := by
  obtain ⟨first, -⟩ := ringReads_cons.mp words
  unfold fetch
  rw [first]
  dsimp only
  split
  · next failed =>
    intro same
    cases same
    exact commandSize_ne_fault failed
  · next n sized =>
    obtain rfl : n = c.size := commandSize_ok size sized
    rw [words]
    exact nofun

/-- The words of a command of its opcode's size are enough for the decoder. -/
theorem decode_ne_truncated {s : State} {c : Cmd} (size : opSize s c.op = some c.size) :
    decode (decodeSize s) (bytesOfWords c.words) ≠ .error .truncated := by
  have word : takeWord (bytesOfWords c.words) = some (c.w0, bytesOfWords c.rest) := takeWord_bytesOfWord _ _
  unfold decode
  rw [word]
  dsimp only
  split
  · exact nofun
  · exact nofun
  · next n sized =>
    have length : n + 1 = c.size := Option.some.inj ((opSize_of_decodeSize sized).symm.trans size)
    obtain rfl : n = c.rest.length := Nat.succ.inj length
    have args : takeWords c.rest.length (bytesOfWords c.rest) = some (c.rest, []) := by
      simpa using takeWords_bytesOfWords c.rest []
    rw [args]
    dsimp only
    split <;> exact nofun

/-! ### The consumer's dispatch (43_consumer_dispatch.md R260, R275) -/

/-- Only the client commands, those of selectors 4 to 15, have no built-in handler (30_encoding.md R111). -/
theorem client_of_builtinAnswer_eq_none {s : State} {i : Instr} (h : builtinAnswer s i = none) :
    4 ≤ selOf i.opcode := by
  have selector (sel fn : BitVec 4) : selOf (sel ++ fn) = sel.toFin := congrArg BitVec.toFin (field_append_high sel fn)
  cases i
  case clientSel4 | clientSel5 | clientSel6 | clientSel7 | clientSel8 | clientSel9 | clientSel10 | clientSel11
    | clientSel12 | clientSel13 | clientSel14 | clientSel15 =>
    simp only [Instr.opcode, selector]
    decide
  all_goals cases h

/-- A selector other than 0 is bound to overlay 1 or to a client overlay (41_overlay_registry.md R192, R193). -/
theorem overlay_of_bound {s : State} (inv : StateInv s) (initialized : s.lc ≠ .uninit) {sel id : Fin 16}
    (external : sel ≠ 0) (isBound : s.selMap[sel] = some id) : id = 1 ∨ 2 ≤ id := by
  obtain ⟨-, -, -, -, -, sel1, sel2, sel3⟩ := inv.builtins initialized
  by_cases client : 4 ≤ sel
  · exact .inr (inv.clients sel id client isBound)
  · have cases : sel = 1 ∨ sel = 2 ∨ sel = 3 := by omega
    left
    obtain rfl | rfl | rfl := cases
    · exact Option.some.inj (isBound.symm.trans sel1)
    · exact Option.some.inj (isBound.symm.trans sel2)
    · exact Option.some.inj (isBound.symm.trans sel3)

/-- A registered client overlay has a client handler (R190). -/
theorem clientDescOk_handler {p : Params} {d : Descriptor} (h : clientDescOk p d = true) :
    ∃ hd, d.handler = .client hd := by
  unfold clientDescOk at h
  split at h
  · next handler => exact ⟨_, handler⟩
  · cases h

theorem clientHandler_ne_fault {s : State} {id : Fin 16} {c : Cmd} {hd : Handler} {f : Fault}
    (handler : s.ovlDesc[id].handler = .client hd) : clientHandler s id c ≠ .error (.fault f) := by
  unfold clientHandler
  rw [handler]
  dsimp only
  split
  · exact nofun
  · split
    · exact nofun
    · split <;> exact nofun

/-- The overlay a command is dispatched to has a handler for it (R270, 41_overlay_registry.md R190, R192). -/
theorem handlerOf_ne_fault {s : State} {id : Fin 16} {i : Instr} {f : Fault} (inv : StateInv s)
    (initialized : s.lc ≠ .uninit) (external : selOf i.opcode ≠ 0) (isBound : s.selMap[selOf i.opcode] = some id) :
    handlerOf s id (encodeCmd i) (builtinAnswer s i) ≠ .error (.fault f) := by
  unfold handlerOf
  split
  · next builtin =>
    split
    · exact nofun
    · next noAnswer =>
      have client := inv.clients _ id (client_of_builtinAnswer_eq_none noAnswer) isBound
      rw [builtin] at client
      exact absurd client (by decide)
  · next other =>
    have client : 2 ≤ id := (overlay_of_bound inv initialized external isBound).resolve_left other
    obtain ⟨hd, handler⟩ := clientDescOk_handler (inv.descriptors id client (inv.bound _ id isBound))
    exact clientHandler_ne_fault handler

theorem commitCommand_ne_fault {s t : State} {id : Fin 16} {n : Nat} {out : List Cmd} {f : Fault} :
    commitCommand s id n out t ≠ .error (.fault f) := by
  unfold commitCommand
  split
  · exact nofun
  · split <;> exact nofun

theorem dispatch_ne_fault {s : State} {i : Instr} {f : Fault} (inv : StateInv s) (initialized : s.lc ≠ .uninit)
    (external : selOf i.opcode ≠ 0) : dispatch s (encodeCmd i) (builtinAnswer s i) ≠ .error (.fault f) := by
  unfold dispatch
  rw [encodeCmd_op]
  split
  · next failed =>
    intro same
    cases same
    exact overlayExtent_ne_fault failed
  · next id n extent =>
    obtain ⟨isBound, -⟩ := overlayExtent_ok extent
    split
    · next failed =>
      intro same
      cases same
      exact handlerOf_ne_fault inv initialized external isBound failed
    · exact commitCommand_ne_fault

theorem exec_completes {s : State} (i : Instr) (inv : StateInv s) (initialized : s.lc ≠ .uninit) :
    ∃ t, exec i s = .next t := by
  by_cases external : selOf i.opcode ≠ 0
  · rw [exec_eq_dispatch external]
    exact settle_completes fun f => dispatch_ne_fault inv initialized external
  · obtain ⟨ignored, rfl⟩ | ⟨ignored, rfl⟩ | ⟨target, rfl⟩ := internal_of_selOf (Decidable.not_not.mp external)
    · exact ⟨_, rfl⟩
    · exact ⟨_, rfl⟩
    · refine settle_completes fun f => ?_
      split <;> exact nofun

theorem rejectFault_ne_fault {s : State} {r : Reject} {f : Fault} (h : r ≠ .truncated) :
    rejectFault s r ≠ .fault f := by
  cases r with
  | truncated => exact absurd rfl h
  | _ => exact nofun

theorem consumerStep_completes {s : State} {q : List Cmd} (inv : StateInv s) (ring : RingInv s q) :
    ∃ t, consumerStep s = .next t := by
  have contents := (ringInv_iff.mp ring).1
  unfold consumerStep
  split
  · exact ⟨s, rfl⟩
  · next run =>
    have initialized : s.lc ≠ .uninit := by rw [started_of_run contents run]; decide
    obtain ⟨c, size, words⟩ := faces_words (faces_of_run contents run)
    split
    · next failed =>
      refine settle_completes fun f same => ?_
      cases same
      exact fetch_ne_fault size words failed
    · next bs fetched =>
      obtain rfl := fetch_words size words fetched
      split
      · next r rejected =>
        refine settle_completes fun f same => ?_
        have notTruncated : r ≠ .truncated := by
          rintro rfl
          exact decode_ne_truncated size rejected
        exact rejectFault_ne_fault notTruncated (Except.error.inj same)
      · exact exec_completes _ inv initialized

/-! ### The other agents -/

theorem rasterizerStep_ne_fault {s : State} {f : Fault} : rasterizerStep s ≠ .error (.fault f) := by
  unfold rasterizerStep
  split
  · exact nofun
  · split <;> exact nofun

theorem fenceStep_ne_fault {s : State} {f : Fault} : fenceStep s ≠ .error (.fault f) := by
  unfold fenceStep
  split
  · exact nofun
  · split <;> exact nofun

/-- Settles O55, by the agent whose turn it is: the fit guarantee (R162) carries PRODUCER, the ring invariant (R170)
CONSUMER's fetch and the registry its dispatch. -/
theorem safeRunNeverGetsStuck : Obligations.SafeRunNeverGetsStuck := by
  rintro s ⟨inv, q, ring, -⟩ running
  have turnInv := stateInv_takeTurn inv
  have turnRing := ringInv_takeTurn ring
  cases turn : nextTurn s with
  | powerOn => exact ⟨_, step_powerOn turn⟩
  | agent a =>
    cases a with
    | producer =>
      rw [step_producer ⟨turn, running⟩]
      exact settle_completes fun f => producerStep_ne_fault turnInv turnRing
    | consumer =>
      rw [step_consumer ⟨turn, running⟩]
      exact consumerStep_completes turnInv turnRing
    | rasterizer =>
      rw [step_rasterizer ⟨turn, running⟩]
      exact settle_completes fun f => rasterizerStep_ne_fault
    | fenceIrq =>
      rw [step_fenceIrq ⟨turn, running⟩]
      exact settle_completes fun f => fenceStep_ne_fault

end Sys2Proof.Proofs
end

section
/-! The issue step behind the gate of 40_ring_buffer.md R154 and R158, in the order of 60_exceptions.md R406, and the
lifecycle operations (R151 to R153). -/
namespace Sys2Proof.Proofs

open Sys2Proof Sys2Proof.Machine

/-! ### The gate (R154, R158) -/

theorem step_fatal {s : State} {op : PortOp} {ops : List PortOp} {code : FaultCode} {info : List Word}
    (h : Issues s op ops) (raised : issue (issued s ops) op = fatal code info) :
    step s = .next (faulted s .producer code info) := by
  rw [step_issues h, raised]
  exact settle_takeTurn_raise h.1.2 code info

theorem step_refused {s : State} {op : PortOp} {ops : List PortOp} (h : Issues s op ops)
    (refused : admits s.lc op = false) : step s = .next (faulted s .producer (refusal s.lc op) []) := by
  rw [← issued_lc s ops] at refused ⊢
  exact step_fatal h (issue_refused refused)

theorem step_reserved {s : State} {op : PortOp} {ops : List PortOp} (h : Issues s op ops)
    (admitted : admits s.lc op = true) (opened : s.resN ≠ 0) (outside : regionOperation op = false) :
    step s = .next (faulted s .producer .reservationState []) := by
  rw [← issued_lc s ops] at admitted
  rw [← issued_resN s ops] at opened
  exact step_fatal h (issue_reserved admitted opened outside)

/-- An operation that the gate lets pass makes its own checks and writes. -/
theorem step_admitted {s : State} {op : PortOp} {ops : List PortOp} (h : Issues s op ops)
    (admitted : admits s.lc op = true) (inside : ¬(s.resN ≠ 0 ∧ regionOperation op = false)) :
    step s = settle .producer (takeTurn s) (perform (issued s ops) op) := by
  rw [← issued_lc s ops] at admitted
  rw [← issued_resN s ops] at inside
  rw [step_issues h, issue_admitted admitted inside]

/-- An issue step is its own checks and writes behind the gate. -/
theorem step_gate {s k : State} {op : PortOp} {ops : List PortOp} (h : Issues s op ops)
    (own : settle .producer (takeTurn s) (perform (issued s ops) op) = .next k) :
    step s = .next (gate s op k) := by
  unfold gate
  split
  · next refused => exact step_refused h refused
  · next notRefused =>
    have admitted : admits s.lc op = true := by simpa using notRefused
    split
    · next reserved => exact step_reserved h admitted reserved.1 reserved.2
    · next inside => rw [step_admitted h admitted inside, own]

/-- An operation writes nothing of the block's FAULT (60_exceptions.md R401). -/
theorem issueOutcome_fault {s t : State} (h : IssueOutcome s t) : t.fault = s.fault := by
  cases h <;> rfl

/-- Settles O28: the gate's two checks, and after them the operation's own faults. -/
theorem lifecycleAndReservationChecks : Obligations.LifecycleAndReservationChecks := by
  intro s op ops h
  refine ⟨fun refused => ?_, fun allowed t r next recorded => ?_, fun allowed opened outside => ?_⟩
  · exact step_refused h refused
  · rw [step_issues h] at next
    obtain ok | ⟨code, info, raised, rfl⟩ := settle_next next
    · have kept := issueOutcome_fault (issue_outcome ok)
      rw [recorded, issued_fault, h.1.2] at kept
      cases kept
    · rw [raise_of_none (by rw [takeTurn_fault, h.1.2])] at recorded
      cases recorded
      obtain own | ⟨⟨f, access⟩, -⟩ := issue_error (by rw [issued_lc, allowed]) raised
      · exact own
      · cases access
  · exact step_reserved h allowed opened outside

/-! ### The lifecycle operations (R151, R152, R153) -/

/-- Settles O30: `start` has no check of its own. -/
theorem startOpensTheRing : Obligations.StartOpensTheRing := fun _ _ h => step_gate h rfl

/-- The clauses of a drained block (70_reset_and_hazards.md R478). -/
theorem drained_iff {s : State} : drained s = true ↔
    s.switchPending = false ∧ s.resN = 0 ∧ s.cbuf = s.active ∧ s.rpos = s.cursor
      ∧ s.sig = false ∧ s.cstate = .idle ∧ s.rzQ = [] ∧ s.irqPending = 0 := by
  simp only [drained, Bool.and_eq_true, Bool.not_eq_true', decide_eq_true_eq, and_assoc]

theorem drained_takeTurn (s : State) : drained (takeTurn s) = drained s := by simp [drained]

/-- Settles O31: `close` and the two micro-steps it queues; CLOSE_COMMIT's next state is the reset state but for FAULT,
the logs and memory. -/
theorem closeDrainsThenResets : Obligations.CloseDrainsThenResets := by
  refine ⟨fun s ops h => step_gate h rfl, fun s rest h => ?_, fun s rest h => ?_⟩
  · rw [step_runs h]
    dsimp only
    rw [← drained_iff, ← drained_takeTurn]
    refine ⟨fun isDrained => ?_, fun notDrained => ?_⟩
    · rw [microStep, if_pos isDrained, settle_ok]
    · rw [microStep, if_neg notDrained, settle_ok]
  · refine ⟨closeCommit (takeTurn s), step_runs h, ?_⟩
    simp [closeCommit, State.resetWith, h.1.2]

end Sys2Proof.Proofs
end

section
/-! The region: `reserve`, `store` and `publish` (40_ring_buffer.md R155 to R157). -/
namespace Sys2Proof.Proofs

open Sys2Proof Sys2Proof.Machine

/-- Settles O32: the two operations' own checks, behind the gate. -/
theorem reserveOpensAndStoreFillsRegion : Obligations.ReserveOpensAndStoreFillsRegion := by
  refine ⟨fun s n ops h => step_gate h ?_, fun s k w ops h => step_gate h ?_⟩
  · simp only [perform, doReserve, issued_params]
    split
    · exact settle_takeTurn_raise h.1.2 _ _
    · rfl
  · simp only [perform, doStore, issued_resN, issued_stage]
    split
    · exact settle_takeTurn_raise h.1.2 _ _
    · rfl

theorem stageAt_congr {s t : State} (stage : t.stage = s.stage) (k : Nat) : stageAt t k = stageAt s k := by
  simp only [stageAt, stage]

theorem mem_missingWords {s : State} {n k : Nat} : k ∈ missingWords s n ↔ k < n ∧ stageAt s k = none := by
  simp [missingWords]

/-- R157 (log 10): the index that PUBLISH_INCOMPLETE records is one of the missing ones. -/
theorem pickMissing_mem (tick : Nat) {ks : List Nat} (missing : ks ≠ []) : pickMissing tick ks ∈ ks := by
  unfold pickMissing
  split
  · exact absurd rfl missing
  · exact List.mem_cons_self
  · next k ks _ =>
    have inRange : Config.freePick tick % (ks.length + 1) < (k :: ks).length := Nat.mod_lt _ (Nat.succ_pos _)
    rw [List.getD_eq_getElem _ _ inRange]
    exact List.getElem_mem inRange

/-- A region whose words were all stored holds the words of the command. -/
theorem stageAt_of_take {s : State} {n : Nat} {ws : List Word} (staged : s.stage.take n = ws.map some) {k : Nat}
    {w : Word} (word : ws[k]? = some w) : stageAt s k = some w := by
  have entry : (s.stage.take n)[k]? = some (some w) := by rw [staged, List.getElem?_map, word]; rfl
  rw [List.getElem?_take] at entry
  split at entry
  · simp only [stageAt, entry]
  · cases entry

theorem stagedWords_eq {s : State} {k : Nat} {ws : List Word}
    (staged : ∀ j w, ws[j]? = some w → stageAt s (k + j) = some w) : stagedWords s k ws.length = ws := by
  induction ws generalizing k with
  | nil => rfl
  | cons w ws ih =>
    have first : stageAt s k = some w := staged 0 w rfl
    have others := ih (k := k + 1) fun j v word => by
      rw [Nat.add_assoc, Nat.add_comm 1]
      exact staged (j + 1) v word
    rw [List.length_cons, stagedWords, first, others]
    rfl

theorem missingWords_eq_nil {s : State} {ws : List Word}
    (staged : ∀ j w, ws[j]? = some w → stageAt s j = some w) : missingWords s ws.length = [] := by
  refine List.eq_nil_iff_forall_not_mem.mpr fun k missing => ?_
  obtain ⟨inRange, unwritten⟩ := mem_missingWords.mp missing
  rw [staged k _ (List.getElem?_eq_getElem inRange)] at unwritten
  cases unwritten

/-- A region has at least one word, so its words are a command. -/
theorem cmdOfWords_ne_none {ws : List Word} (words : ws ≠ []) : ∃ c, cmdOfWords ws = some c := by
  cases ws with
  | nil => exact absurd rfl words
  | cons w ws => exact ⟨⟨w, ws⟩, rfl⟩

/-- `publish` without a region (R157). -/
theorem doPublish_closed {s : State} (closed : s.resN = 0) : doPublish s = fatal .reservationState [] := by
  rw [doPublish, closed]
  rfl

/-- `publish` with a word never stored (R157). -/
theorem doPublish_incomplete {s : State} {k : Nat} (inRange : k < s.resN) (unwritten : stageAt s k = none) :
    ∃ k, k < s.resN ∧ stageAt s k = none ∧ doPublish s = fatal .publishIncomplete [wordOfNat k] := by
  have missing : missingWords s s.resN ≠ [] :=
    List.ne_nil_of_mem (mem_missingWords.mpr ⟨inRange, unwritten⟩)
  have words : stagedWords s 0 s.resN ≠ [] :=
    List.ne_nil_of_length_pos (by rw [stagedWords_length]; omega)
  obtain ⟨c, command⟩ := cmdOfWords_ne_none words
  obtain ⟨recordedInRange, recordedUnwritten⟩ := mem_missingWords.mp (pickMissing_mem s.tick missing)
  exact ⟨_, recordedInRange, recordedUnwritten, by simp only [doPublish, command, if_pos missing]⟩

/-- `publish` of a whole command: the checks of `write` on its opcode and size, then its EMIT (R157, R211). -/
theorem doPublish_staged {s : State} {c : Cmd} (size : c.size = s.resN)
    (staged : s.stage.take s.resN = c.words.map some) :
    doPublish s = (checkOpcode s c).map fun _ =>
      { s with resN := 0, stage := List.replicate s.params.maxCmd none, pq := [.emit c 0 0] } := by
  have entries (j : Nat) (w : Word) (word : c.words[j]? = some w) : stageAt s j = some w := stageAt_of_take staged word
  have words : stagedWords s 0 s.resN = c.words := by
    rw [← size]
    exact stagedWords_eq fun j w word => by rw [Nat.zero_add]; exact entries j w word
  have complete : missingWords s s.resN = [] := by
    rw [← size]
    exact missingWords_eq_nil entries
  simp only [doPublish, words, complete, Cmd.words, cmdOfWords, ne_eq, not_true_eq_false, if_false]
  cases checkOpcode s c <;> rfl

/-- The checks of `write` on opcode and size, in their order (42_encoder_autosync.md R210, R211). -/
theorem checkOpcode_eq (s : State) (c : Cmd) :
    checkOpcode s c =
      if opSize s c.op = none then fatal .unboundSelector [opWord c.op]
      else if c.op = 0x00 ∨ c.op = 0x02 ∨ c.op = 0x29 ∨ opSize s c.op = some 0 then fatal .reservedOpcode [opWord c.op]
      else if opSize s c.op ≠ some c.size then fatal .sizeMismatch [opWord c.op, wordOfNat c.size]
      else .ok () := by
  unfold checkOpcode
  cases opSize s c.op with
  | none => rfl
  | some n =>
    have owned : (ringOwned c.op = true ∨ n = 0)
        ↔ (c.op = 0x00 ∨ c.op = 0x02 ∨ c.op = 0x29 ∨ some n = some 0) := by
      simp only [ringOwned, Bool.or_eq_true, decide_eq_true_eq, or_assoc, Option.some.injEq]
    have sized : c.size ≠ n ↔ some n ≠ some c.size := ne_comm.trans (Option.some_injective _).ne_iff.symm
    simp only [owned, sized, reduceCtorEq, if_false]

theorem opSize_issued (s : State) (ops : List PortOp) (op : Byte) : opSize (issued s ops) op = opSize s op := by
  simp only [opSize, issued_selMap, issued_ovlDesc]

/-- In STARTED the gate lets `publish` pass. -/
theorem step_publish {s : State} {ops : List PortOp} (h : Issues s .publish ops) (lc : s.lc = .started) :
    step s = settle .producer (takeTurn s) (doPublish (issued s ops)) := by
  have admitted : admits s.lc .publish = true := by
    rw [lc]
    rfl
  exact step_admitted h admitted fun outside => nomatch outside.2

/-- Settles O33, by what the region holds. -/
theorem publishEmitsStagedWords : Obligations.PublishEmitsStagedWords := by
  intro s ops h lc
  have raised (code : FaultCode) (info : List Word) :
      settle .producer (takeTurn s) (fatal code info) = .next (faulted s .producer code info) :=
    settle_takeTurn_raise h.1.2 code info
  rw [step_publish h lc]
  refine ⟨fun closed => ?_, fun ⟨k, inRange, unwritten⟩ => ?_, fun c size staged => ?_⟩
  · rw [doPublish_closed ((issued_resN s ops).trans closed), raised]
  · have same (k : Nat) : stageAt (issued s ops) k = stageAt s k := stageAt_congr (issued_stage s ops) k
    obtain ⟨j, recordedInRange, recordedUnwritten, incomplete⟩ :=
      doPublish_incomplete (s := issued s ops) (k := k) (by rwa [issued_resN]) (by rwa [same])
    rw [issued_resN] at recordedInRange
    rw [same] at recordedUnwritten
    exact ⟨j, recordedInRange, recordedUnwritten, by rw [incomplete, raised]⟩
  · rw [doPublish_staged (s := issued s ops) (by rwa [issued_resN]) (by rwa [issued_stage, issued_resN]),
      checkOpcode_eq, opSize_issued]
    split_ifs with unbound reserved missized
    · exact raised .unboundSelector [opWord c.op]
    · exact raised .reservedOpcode [opWord c.op]
    · exact raised .sizeMismatch [opWord c.op, wordOfNat c.size]
    · rw [← issued_params s ops]
      rfl

end Sys2Proof.Proofs
end

section
/-! The explicit syncs and the fences of the producer (42_encoder_autosync.md R230, R232, R233). -/
namespace Sys2Proof.Proofs

open Sys2Proof Sys2Proof.Machine

/-- Settles O42: the three operations, each with its command and its class. -/
theorem explicitSyncsClearTheirClass : Obligations.ExplicitSyncsClearTheirClass := by
  intro s op w0 mask ops row h
  have own : settle .producer (takeTurn s) (perform (issued s ops) op)
      = .next { issued s ops with autosync := s.autosync &&& ~~~mask, pq := [.emit ⟨w0, [0]⟩ mask 0] } := by
    rw [← issued_autosync s ops]
    simp only [List.mem_cons, List.not_mem_nil, or_false, Prod.mk.injEq] at row
    obtain ⟨rfl, rfl, rfl⟩ | ⟨rfl, rfl, rfl⟩ | ⟨rfl, rfl, rfl⟩ := row <;> rfl
  exact step_gate h own

/-- Settles O43: both operations, and the guard of WAITF. -/
theorem fenceAndWaitQueueSyncFull : Obligations.FenceAndWaitQueueSyncFull := by
  refine ⟨fun s cb arg ops h => step_gate h ?_, fun s ops h => step_gate h ?_, fun s k rest h => ?_⟩
  · rw [← issued_fenceQ s ops, ← issued_fenceIssued s ops]
    rfl
  · rw [← issued_fenceQ s ops, ← issued_fenceIssued s ops]
    rfl
  · rw [step_runs h, microStep]
    refine ⟨fun done => ?_, fun waiting => ?_⟩
    · rw [if_pos ((takeTurn_fenceDone s).trans done), settle_ok]
    · rw [if_neg (by rwa [takeTurn_fenceDone]), settle_ok]

end Sys2Proof.Proofs
end

section
/-! The guards of the agents (60_exceptions.md R434), and the turn of an agent whose guard is false. -/
namespace Sys2Proof.Proofs

open Sys2Proof Sys2Proof.Machine

/-- The guard of a micro-step, by its kind (40_ring_buffer.md R152, R165, 42_encoder_autosync.md R233). -/
theorem microGuard_iff {s : State} {m : MicroStep} : microGuard s m = true ↔
    (m = .switch → s.cbuf = s.active) ∧ (∀ k, m = .waitf k → s.fenceDone = k) ∧ (m = .drain → drained s = true) := by
  cases m <;> simp [microGuard]

/-- A micro-step whose guard is false stalls (40_ring_buffer.md R149). -/
theorem microStep_stalls {s : State} {m : MicroStep} (rest : List MicroStep) (h : microGuard s m = false) :
    microStep s m rest = .ok s := by
  cases m with
  | emit | closeCommit => cases h
  | switch => exact if_neg (of_decide_eq_false h)
  | waitf k => exact if_neg (of_decide_eq_false h)
  | drain => exact if_neg (by simpa [microGuard] using h)

theorem enabled_producer_iff {s : State} : enabled s .producer = true ↔
    s.fault = none ∧ ∃ m rest, s.pq = m :: rest ∧ microGuard s m = true := by
  cases pq : s.pq <;> simp [enabled, pq]

theorem enabled_consumer_iff {s : State} : enabled s .consumer = true ↔ s.fault = none ∧ s.cstate = .run := by
  simp [enabled]

theorem enabled_rasterizer_iff {s : State} : enabled s .rasterizer = true ↔ s.fault = none ∧ s.rzQ ≠ [] := by
  simp [enabled]

theorem enabled_fenceIrq_iff {s : State} : enabled s .fenceIrq = true ↔ s.fault = none ∧ 0 < s.irqPending := by
  simp [enabled]

theorem enabled_takeTurn (s : State) (a : Agent) : enabled (takeTurn s) a = enabled s a := by
  cases a with
  | producer =>
    have guard (m : MicroStep) : microGuard (takeTurn s) m = microGuard s m := by
      cases m <;> simp [microGuard, drained_takeTurn]
    simp only [enabled, takeTurn_fault, takeTurn_pq, guard]
  | _ => simp [enabled]

/-- An agent with no enabled step, and no operation to issue, leaves the state as it is (log 18). -/
theorem agentStep_rests {s : State} {a : Agent} (running : s.fault = none) (h : enabled s a = false)
    (noIssue : a = .producer → issuePending s = false) : agentStep a s = .next s := by
  have notEnabled : ¬enabled s a = true := by rw [h]; exact Bool.false_ne_true
  unfold agentStep
  rw [running]
  cases a with
  | producer =>
    have rests : producerStep s = .ok s := by
      unfold producerStep
      split
      · next m rest head =>
        refine microStep_stalls rest ?_
        by_contra guard
        exact notEnabled (enabled_producer_iff.mpr ⟨running, m, rest, head, by simpa using guard⟩)
      · next empty =>
        have noOps : s.hostOps = [] := by simpa [issuePending, running, empty] using noIssue rfl
        rw [noOps]
    simp only [rests, settle_ok]
  | consumer =>
    have idle : s.cstate = .idle := by
      cases state : s.cstate with
      | idle => rfl
      | run => exact absurd (enabled_consumer_iff.mpr ⟨running, state⟩) notEnabled
    simp only [consumerStep, idle]
  | rasterizer =>
    have empty : s.rzQ = [] := by
      by_contra pending
      exact notEnabled (enabled_rasterizer_iff.mpr ⟨running, pending⟩)
    simp only [rasterizerStep, empty, settle_ok]
  | fenceIrq =>
    have noneLeft : s.irqPending = 0 := by
      by_contra pending
      exact notEnabled (enabled_fenceIrq_iff.mpr ⟨running, Nat.pos_of_ne_zero pending⟩)
    simp only [fenceStep, noneLeft, settle_ok]

/-- Settles O6: each guard by its definition, and the turn of a disabled agent. -/
theorem agentsStepOnlyAsGuardsAllow : Obligations.AgentsStepOnlyAsGuardsAllow := by
  refine ⟨fun s => ⟨?_, enabled_consumer_iff, enabled_rasterizer_iff, enabled_fenceIrq_iff⟩,
    fun s a turn disabled noIssue => ?_⟩
  · simp only [enabled_producer_iff, microGuard_iff]
  · rw [step_agent turn]
    refine agentStep_rests (by rw [takeTurn_fault, turn.2]) (by rw [enabled_takeTurn, disabled]) fun producer => ?_
    simpa [issuePending] using noIssue producer

end Sys2Proof.Proofs
end

section
/-! What EMIT and SWITCH leave in memory (40_ring_buffer.md R160, R165): the words they write are read back from the
ring, and every other byte reads as before. -/
namespace Sys2Proof.Proofs

open Sys2Proof Sys2Proof.Machine

/-! ### A state with words written to a ring buffer (20_memory.md R82) -/

/-- The state that `ringWrite` answers for words inside the ring (`ringWrite_ok`). -/
def written (s : State) (b : RingBuf) (i : Nat) (ws : List Word) : State :=
  { s with mem := memWriteWords s.mem (ringAddr s.params b i) ws }

section Written
variable {s : State} {b : RingBuf} {i : Nat} {ws : List Word}

/-- Each word is read back. -/
theorem ringRead_written (valid : s.params.valid = true) (fits : i + ws.length ≤ s.params.cap + 1) {k : Nat} {w : Word}
    (word : ws[k]? = some w) : ringRead (written s b i ws) b (i + k) = .ok w :=
  ringRead_write (t := written s b i ws) valid rfl rfl fits word

/-- The other buffer reads as before. -/
theorem ringRead_written_other (valid : s.params.valid = true) (fits : i + ws.length ≤ s.params.cap + 1) (j : Nat) :
    ringRead (written s b i ws) b.other j = ringRead s b.other j :=
  ringRead_write_other (t := written s b i ws) valid rfl rfl fits j

/-- Every other byte reads as before. -/
theorem memRead_written {a : Nat} (outside : a < ringAddr s.params b i ∨ ringAddr s.params b (i + ws.length) ≤ a) :
    memRead (written s b i ws).mem a = memRead s.mem a :=
  memRead_memWriteWords_other s.mem (by simp only [ringAddr] at outside ⊢; omega)

end Written

/-! ### EMIT -/

/-- Settles O34: the one write of EMIT, and what `emitCommand` makes of the other elements. -/
theorem emitPlacesCommand : Obligations.EmitPlacesCommand := by
  intro s c clr use rest h valid fits
  have length : (c.words ++ [0]).length = c.size + 1 := by simp [Cmd.words, Cmd.size]
  have inRing : s.cursor + (c.words ++ [0]).length ≤ s.params.cap + 1 := by omega
  obtain ⟨t, emit⟩ := emitCommand_completes (s := { takeTurn s with pq := rest }) (c := c) (by simpa using valid)
    (by simpa using fits)
  obtain ⟨-, -, after⟩ := emitCommand_ok emit
  refine ⟨(written s s.active s.cursor (c.words ++ [0])).mem, ?_, ?_, fun a outside => ?_⟩
  · rw [step_runs h, microStep, emit, settle_ok, after]
    simp [written]
  · rw [← length]
    exact ringReads_of_getElem fun k w word => ringRead_written valid inRing word
  · exact memRead_written (by rwa [length, ← Nat.add_assoc])

/-! ### SWITCH -/

/-- The other buffer of the active one filled with terminators, the first write of SWITCH (R165). -/
def cleared (s : State) : State := written s s.active.other 0 (List.replicate (s.params.cap + 1) 0)

/-- Then the JUMP to it at the cursor, the second write (R165). -/
def linked (s : State) : State := written (cleared s) s.active s.cursor [jumpWord s.params s.active.other]

/-- The JUMP is in the active buffer, so the other one holds terminators only. -/
theorem ringRead_linked_other {s : State} (valid : s.params.valid = true) (cursor : s.cursor ≤ s.params.cap) {i : Nat}
    (inRing : i ≤ s.params.cap) : ringRead (linked s) s.active.other i = .ok 0 := by
  have apart : ringRead (linked s) s.active.other i = ringRead (cleared s) s.active.other i :=
    ringRead_written_other (s := cleared s) valid (Nat.succ_le_succ cursor) i
  have zero : (List.replicate (s.params.cap + 1) (0 : Word))[i]? = some 0 := by
    rw [List.getElem?_replicate, if_pos (Nat.lt_succ_of_le inRing)]
  have terminator : ringRead (cleared s) s.active.other (0 + i) = .ok 0 := ringRead_written valid (by simp) zero
  rw [apart, ← Nat.zero_add i, terminator]

theorem ringRead_linked_cursor {s : State} (valid : s.params.valid = true) (cursor : s.cursor ≤ s.params.cap) :
    ringRead (linked s) s.active s.cursor = .ok (jumpWord s.params s.active.other) :=
  ringRead_written (s := cleared s) (ws := [jumpWord s.params s.active.other]) (k := 0) valid
    (Nat.succ_le_succ cursor) rfl

theorem memRead_linked {s : State} {a : Nat}
    (outsideOther : a < ringAddr s.params s.active.other 0 ∨ ringAddr s.params s.active.other (s.params.cap + 1) ≤ a)
    (outsideJump : a < ringAddr s.params s.active s.cursor ∨ ringAddr s.params s.active (s.cursor + 1) ≤ a) :
    memRead (linked s).mem a = memRead s.mem a := by
  have jump : memRead (linked s).mem a = memRead (cleared s).mem a := memRead_written (s := cleared s) outsideJump
  have clear : memRead (cleared s).mem a = memRead s.mem a := memRead_written (by simpa using outsideOther)
  rw [jump, clear]

/-- Settles O35: the guard of SWITCH, its two writes, and what `switchBuffer` makes of the other elements. -/
theorem switchJumpsToOtherBuffer : Obligations.SwitchJumpsToOtherBuffer := by
  intro s rest h
  refine ⟨fun away => ?_, fun here valid cursor => ?_⟩
  · rw [step_runs h, microStep, if_neg (by simpa using away), settle_ok]
  · obtain ⟨t, switch⟩ := switchBuffer_completes (s := { takeTurn s with pq := rest }) (by simpa using valid)
      (by simpa using cursor)
    obtain ⟨-, -, -, after⟩ := switchBuffer_ok switch
    refine ⟨(linked s).mem, ?_, fun i inRing => ringRead_linked_other valid cursor inRing,
      ringRead_linked_cursor valid cursor, fun a => memRead_linked⟩
    rw [step_runs h, microStep, if_pos (by simpa using here), switch, settle_ok, after]
    simp [linked, cleared, written]

end Sys2Proof.Proofs
end

section
/-! The overlay registry in READY (41_overlay_registry.md R190 to R193): what `register` and `bind` answer, check by check
in the order of the rules. -/
namespace Sys2Proof.Proofs

open Sys2Proof Sys2Proof.Machine

/-- An operation between `init` and `start`, with no open reservation, makes its own checks and writes
(40_ring_buffer.md R154, R158). -/
theorem step_ready {s : State} {op : PortOp} {ops : List PortOp} (h : Issues s op ops) (ready : s.lc = .ready)
    (closed : s.resN = 0) (outside : admits .ready op = true) :
    step s = settle .producer (takeTurn s) (perform (issued s ops) op) :=
  step_admitted h (by rw [ready, outside]) fun reserved => reserved.1 closed

theorem step_ready_fatal {s : State} {op : PortOp} {ops : List PortOp} {code : FaultCode} {info : List Word}
    (h : Issues s op ops) (ready : s.lc = .ready) (closed : s.resN = 0) (outside : admits .ready op = true)
    (fails : perform (issued s ops) op = fatal code info) : step s = .next (faulted s .producer code info) := by
  rw [step_ready h ready closed outside, fails]
  exact settle_takeTurn_raise h.1.2 code info

theorem toNat_wordOfNat (i : Fin 16) : (wordOfNat i.val).toNat = i.val :=
  Nat.mod_eq_of_lt (i.isLt.trans (by decide))

/-! ### Ids of client overlays (R190) -/

theorem mem_clientIds {i : Fin 16} : i ∈ clientIds ↔ 2 ≤ i := by
  revert i
  decide

theorem clientIds_ascending : clientIds.Pairwise (· < ·) := by decide

/-- The ids that `register` can give under AUTO, lowest first. -/
def freeIds (s : State) : List (Fin 16) := clientIds.filter fun i => !s.ovlValid[i]

theorem freeIds_eq_nil {s : State} : freeIds s = [] ↔ ∀ i : Fin 16, 2 ≤ i → s.ovlValid[i] = true := by
  simp [freeIds, List.filter_eq_nil_iff, mem_clientIds]

/-- A free id below which every client id is taken is the first that AUTO finds. -/
theorem head?_freeIds {s : State} {i : Fin 16} (client : 2 ≤ i) (free : s.ovlValid[i] = false)
    (lowest : ∀ j : Fin 16, 2 ≤ j → j < i → s.ovlValid[j] = true) : (freeIds s).head? = some i := by
  obtain ⟨below, above, parts⟩ := List.append_of_mem (mem_clientIds.mpr client)
  have taken : ∀ j ∈ below, s.ovlValid[j] = true := fun j isBelow => by
    have ascending := clientIds_ascending
    rw [parts] at ascending
    obtain ⟨-, -, belowRest⟩ := List.pairwise_append.mp ascending
    exact lowest j (mem_clientIds.mp (parts ▸ List.mem_append_left _ isBelow)) (belowRest j isBelow i List.mem_cons_self)
  rw [freeIds, List.head?_filter, List.find?_eq_some_iff_append]
  exact ⟨by simp [free], below, above, parts, fun j isBelow => by simp [taken j isBelow]⟩

/-! ### `register` (R190) -/

theorem descOk_iff {p : Params} {d : DescriptorArg} : descOk p d = true ↔
    d.codeAddr.toNat < 2 ^ 24 ∧ d.dataAddr.toNat < 2 ^ 24 ∧ d.stateAddr.toNat < 2 ^ 24
      ∧ ∀ f : Fin 16, d.cmdSize[f] ≤ p.maxCmd ∧ (d.cmdSize[f] = 0 ↔ d.handler.meanings.getLsbD f.val = false) := by
  have every : ∀ f : Fin 16, f ∈ functions := by decide
  have sameTruth (f : Fin 16) : (decide (d.cmdSize[f] = 0) == !d.handler.meanings.getLsbD f.val) = true ↔
      (d.cmdSize[f] = 0 ↔ d.handler.meanings.getLsbD f.val = false) := by
    rw [beq_iff_eq, Bool.eq_iff_iff, decide_eq_true_iff, Bool.not_eq_true']
  simp only [descOk, Bool.and_eq_true, decide_eq_true_eq, List.all_eq_true, every, sameTruth, forall_const, and_assoc,
    forall_and]

section Register

variable {s : State} {d : DescriptorArg}

theorem doRegister_badDescriptor (bad : descOk s.params d = false) (want : Option Word) :
    doRegister s d want = fatal .badDescriptor [] := if_pos bad

theorem doRegister_outOfRange (ok : descOk s.params d = true) {w : Word} (outside : 16 ≤ w.toNat) :
    doRegister s d (some w) = fatal .ovlIdRange [w] := by
  simp [doRegister, ok, Nat.not_lt.mpr outside]

theorem doRegister_full (ok : descOk s.params d = true) {want : Option Word}
    (inRange : ∀ w, want = some w → w.toNat < 16) (full : freeIds s = []) :
    doRegister s d want = fatal .ovlTableFull [] := by
  rw [freeIds] at full
  rw [doRegister, if_neg (by simp [ok])]
  cases want with
  | none => simp only [full]
  | some w => simp only [full, inRange w rfl, ↓reduceDIte, ↓reduceIte]

/-- A requested id in range, while an id is free: a duplicate or a claim. -/
theorem doRegister_requested (ok : descOk s.params d = true) (room : freeIds s ≠ []) (i : Fin 16) :
    doRegister s d (some (wordOfNat i.val)) =
      if s.ovlValid[i] = true then fatal .ovlDuplicate [wordOfNat i.val] else .ok (claim s i d) := by
  rw [freeIds] at room
  rw [doRegister, if_neg (by simp [ok])]
  simp only [toNat_wordOfNat, i.isLt, ↓reduceDIte, if_neg room, Fin.eta]
  rfl

theorem doRegister_auto (ok : descOk s.params d = true) {i : Fin 16} (first : (freeIds s).head? = some i) :
    doRegister s d none = .ok (claim s i d) := by
  obtain ⟨others, found⟩ := List.head?_eq_some_iff.mp first
  rw [freeIds] at found
  rw [doRegister, if_neg (by simp [ok])]
  simp only [found]

end Register

/-- Settles O36: the gate passes, and each clause is one answer of `register`. -/
theorem registerClaimsId : Obligations.RegisterClaimsId := by
  intro s d want ops h ready closed ok outOfRange full
  have refused {code : FaultCode} {info : List Word} (fails : doRegister (issued s ops) d want = fatal code info) :
      step s = .next (faulted s .producer code info) := step_ready_fatal h ready closed rfl fails
  have okIff : descOk (issued s ops).params d = true ↔ ok := by
    rw [issued_params]
    exact descOk_iff
  have fullIff : freeIds (issued s ops) = [] ↔ full := by
    rw [freeIds_eq_nil, issued_ovlValid]
  refine ⟨fun bad => ?_, fun w fits asked outside => ?_, fun fits inRange noRoom => ?_,
    fun i fits room asked taken => ?_, fun i fits room free asked => ?_⟩
  · exact refused (doRegister_badDescriptor (by simpa using okIff.not.mpr bad) want)
  · exact refused (asked ▸ doRegister_outOfRange (okIff.mpr fits) outside)
  · exact refused (doRegister_full (okIff.mpr fits)
      (fun w asked => Nat.lt_of_not_le fun outside => inRange ⟨w, asked, outside⟩) (fullIff.mpr noRoom))
  · refine refused ?_
    rw [asked, doRegister_requested (okIff.mpr fits) (fullIff.not.mpr room), if_pos (by rw [issued_ovlValid, taken])]
  · have claims : doRegister (issued s ops) d want = .ok (claim (issued s ops) i d) := by
      obtain rfl | ⟨rfl, client, lowest⟩ := asked
      · rw [doRegister_requested (okIff.mpr fits) (fullIff.not.mpr room), if_neg (by simp [free])]
      · exact doRegister_auto (okIff.mpr fits)
          (head?_freeIds client (by rw [issued_ovlValid, free]) (by rw [issued_ovlValid]; exact lowest))
    rw [step_ready h ready closed rfl, perform, claims, settle_ok, claim, issued_ovlValid, issued_ovlDesc,
      issued_ovlState]
    rfl

/-! ### `bind` (R192) -/

section Bind

variable {s : State} {id sel : Word}

theorem doBind_selRange (outside : 15 < sel.toNat ∨ sel.toNat ≤ 3) : doBind s id sel = fatal .selRange [sel] :=
  dif_neg (by omega)

theorem doBind_noClient (above : 3 < sel.toNat) (below : sel.toNat ≤ 15) (outside : id.toNat < 2 ∨ 16 ≤ id.toNat) :
    doBind s id sel = fatal .ovlNotRegistered [id] := by
  rw [doBind, dif_pos (by omega), dif_neg (by omega)]

/-- A client selector and a client id: registered, then unbound, then mapped. -/
theorem doBind_client {i k : Fin 16} (clientSel : 4 ≤ k) (clientId : 2 ≤ i) :
    doBind s (wordOfNat i.val) (wordOfNat k.val) =
      if s.ovlValid[i] = false then fatal .ovlNotRegistered [wordOfNat i.val]
      else if s.selMap[k] ≠ none then fatal .selBound [wordOfNat k.val]
      else .ok { s with selMap := s.selMap.set k (some i) } := by
  have selInRange : 3 < k.val ∧ k.val < 16 := ⟨clientSel, k.isLt⟩
  have idInRange : 2 ≤ i.val ∧ i.val < 16 := ⟨clientId, i.isLt⟩
  simp [doBind, toNat_wordOfNat, selInRange, idInRange]

end Bind

/-- Settles O37: the gate passes, and each clause is one answer of `bind`. -/
theorem bindMapsSelector : Obligations.BindMapsSelector := by
  intro s id sel ops h ready closed
  have refused {code : FaultCode} {info : List Word} (fails : doBind (issued s ops) id sel = fatal code info) :
      step s = .next (faulted s .producer code info) := step_ready_fatal h ready closed rfl fails
  refine ⟨fun outside => refused (doBind_selRange outside),
    fun above below outside => refused (doBind_noClient above below outside),
    fun i k clientSel selIs idIs clientId => ?_⟩
  subst selIs idIs
  have answer := doBind_client (s := issued s ops) clientSel clientId
  rw [issued_ovlValid, issued_selMap] at answer
  split
  · next unregistered => exact refused (answer.trans (if_pos unregistered))
  · next registered =>
    rw [if_neg registered] at answer
    split
    · next bound => exact refused (answer.trans (if_pos bound))
    · next unbound =>
      rw [step_ready h ready closed rfl, perform, answer, if_neg unbound, settle_ok]
      simp only [issued_ovlValid]

end Sys2Proof.Proofs
end

section
/-! The registry while the queue is started (41_overlay_registry.md R194, R195): no outcome of an agent's step writes it,
but for CLOSE_COMMIT. -/
namespace Sys2Proof.Proofs

open Sys2Proof Sys2Proof.Machine

/-- LC and what `register` and `bind` write are the same in both states. -/
structure RegistryKept (s t : State) : Prop where
  lc : t.lc = s.lc
  ovlValid : t.ovlValid = s.ovlValid
  ovlDesc : t.ovlDesc = s.ovlDesc
  selMap : t.selMap = s.selMap

theorem RegistryKept.trans {s t u : State} (first : RegistryKept s t) (second : RegistryKept t u) : RegistryKept s u :=
  ⟨second.lc.trans first.lc, second.ovlValid.trans first.ovlValid, second.ovlDesc.trans first.ovlDesc,
    second.selMap.trans first.selMap⟩

theorem registryKept_takeTurn (s : State) : RegistryKept s (takeTurn s) := by constructor <;> simp

/-- A fault writes nothing but its record (60_exceptions.md R401), so only a completed step matters. -/
theorem registryKept_settle {a : Agent} {s t : State} {r : Except Halt State} (next : settle a s r = .next t)
    (completed : r = .ok t → RegistryKept s t) : RegistryKept s t := by
  obtain ok | ⟨code, info, -, rfl⟩ := settle_next next
  · exact completed ok
  · constructor <;> simp

/-! ### The producer -/

/-- `init`, `register`, `bind` and `start` are refused once the queue is started (40_ring_buffer.md R154). -/
theorem registryKept_issue {s t : State} (started : s.lc = .started) (outcome : IssueOutcome s t) :
    RegistryKept s t := by
  cases outcome with
  | inits lc | registers _ _ lc | binds _ _ lc | starts lc =>
    rw [started] at lc
    cases lc
  | _ => constructor <;> rfl

theorem registryKept_producer {s t : State} (started : s.lc = .started) (notClosing : s.pq.head? ≠ some .closeCommit)
    (outcome : ProducerOutcome s t) : RegistryKept s t := by
  cases outcome with
  | rests | passes => constructor <;> rfl
  | emits head emit =>
    obtain ⟨-, -, rfl⟩ := emitCommand_ok emit
    constructor <;> rfl
  | switches head guard switch =>
    obtain ⟨-, -, -, rfl⟩ := switchBuffer_ok switch
    constructor <;> rfl
  | commits head => exact absurd (by rw [head]; rfl) notClosing
  | @issues op ops t empty host outcome =>
    have taken : RegistryKept s { s with hostOps := ops } := by constructor <;> rfl
    exact taken.trans (registryKept_issue started outcome)

/-! ### The other agents -/

theorem registryKept_consumer {s t : State} (next : consumerStep s = .next t) : RegistryKept s t := by
  unfold consumerStep at next
  split at next
  · cases next
    constructor <;> rfl
  · split at next
    · exact registryKept_settle next nofun
    · split at next
      · exact registryKept_settle next nofun
      · rw [exec_frame next]
        constructor <;> rfl

theorem registryKept_rasterizer {s t : State} (outcome : RasterizerOutcome s t) : RegistryKept s t := by
  cases outcome <;> constructor <;> rfl

theorem registryKept_fenceIrq {s t : State} (outcome : FenceOutcome s t) : RegistryKept s t := by
  cases outcome <;> constructor <;> rfl

/-- One lemma per agent, on the state with the turn taken; a halted block has no step (60_exceptions.md R401). -/
theorem registryKept_step {s t : State} {a : Agent} (turn : nextTurn s = .agent a) (started : s.lc = .started)
    (next : step s = .next t) (notClosing : s.pq.head? ≠ some .closeCommit) : RegistryKept s t := by
  refine (registryKept_takeTurn s).trans ?_
  cases halted : s.fault with
  | some r =>
    rw [step_halted turn halted] at next
    cases next
  | none =>
    cases a with
    | producer =>
      rw [step_producer ⟨turn, halted⟩] at next
      exact registryKept_settle next fun ok =>
        registryKept_producer (by rw [takeTurn_lc, started]) (by rwa [takeTurn_pq]) (producer_outcome ok)
    | consumer =>
      rw [step_consumer ⟨turn, halted⟩] at next
      exact registryKept_consumer next
    | rasterizer =>
      rw [step_rasterizer ⟨turn, halted⟩] at next
      exact registryKept_settle next fun ok => registryKept_rasterizer (rasterizer_outcome ok)
    | fenceIrq =>
      rw [step_fenceIrq ⟨turn, halted⟩] at next
      exact registryKept_settle next fun ok => registryKept_fenceIrq (fence_outcome ok)

/-- Settles O38, from the frame of one agent's step. -/
theorem registryIsFrozenWhileStarted : Obligations.RegistryIsFrozenWhileStarted := by
  intro s t a turn started next notClosing
  obtain ⟨lc, ovlValid, ovlDesc, selMap⟩ := registryKept_step turn started next notClosing
  exact ⟨lc.trans started, ovlValid, ovlDesc, selMap⟩

end Sys2Proof.Proofs
end

section
/-! The static hazard table (42_encoder_autosync.md R220): its masks read a command's opcode and tile index only, so a
row is checked on one command for each tile index. -/
namespace Sys2Proof.Proofs

open Sys2Proof Sys2Proof.Machine

/-- The masks of a command in the table of R220. -/
abbrev HazardRow (c : Cmd) (use change clear : HazardMask) : Prop :=
  hzUse c = use ∧ hzChange c = change ∧ hzClear c = clear

theorem hazardRow_congr {c d : Cmd} (op : c.op = d.op) (tile : tileOf c = tileOf d) :
    HazardRow c (hzUse d) (hzChange d) (hzClear d) := by
  refine ⟨?_, ?_, ?_⟩ <;> simp only [hzUse, hzChange, hzClear, op, tile]

/-- A command of an opcode, a tile index in its place (30_encoding.md R119) and zeros elsewhere. -/
def tableCmd (op : Byte) (tile : BitVec 3) : Cmd := ⟨op ++ 0#24, [0#5 ++ tile ++ 0#24]⟩

theorem tableCmd_tileOf (op : Byte) (tile : BitVec 3) : tileOf (tableCmd op tile) = tile :=
  (field_append_above (0#5 ++ tile) 0#24 0 3).trans (field_append_low 0#5 tile)

/-- A row of the table is what it gives the commands `tableCmd`. -/
theorem hazardRow_of_mem {c : Cmd} {ops : List Byte} (use change clear : BitVec 3 → HazardMask) (h : c.op ∈ ops)
    (row : ∀ tile, ∀ op ∈ ops, HazardRow (tableCmd op tile) (use tile) (change tile) (clear tile)) :
    HazardRow c (use (tileOf c)) (change (tileOf c)) (clear (tileOf c)) := by
  obtain ⟨useRow, changeRow, clearRow⟩ := row (tileOf c) c.op h
  rw [← useRow, ← changeRow, ← clearRow]
  exact hazardRow_congr (cmd_op c.op 0#24 _).symm (tableCmd_tileOf c.op (tileOf c)).symm

/-- Settles O41: row by row, for every tile index. -/
theorem hazardTableRows : Obligations.HazardTableRows := by
  intro c
  refine ⟨fun h => ?_, fun h => ?_, fun h => ?_, fun h => ?_, fun h => ?_, fun h => ?_, fun h => ?_, fun h => ?_,
    fun h => ?_, fun h => ?_⟩
  · exact hazardRow_of_mem (fun _ => 0) (fun _ => 0) (fun _ => 0) h (by decide +kernel)
  · exact hazardRow_of_mem (fun t => 0x400 ||| tileBit t ||| 0x100) (fun _ => 0) (fun _ => 0) h (by decide +kernel)
  · exact hazardRow_of_mem tileBit (fun _ => 0x100) (fun _ => 0) h (by decide +kernel)
  · exact hazardRow_of_mem (fun _ => 0) tileBit (fun _ => 0) h (by decide +kernel)
  · exact hazardRow_of_mem (fun _ => 0x400) (fun _ => 0) (fun _ => 0) (List.mem_singleton.mpr h)
      (by decide +kernel)
  · exact hazardRow_of_mem (fun _ => 0) (fun _ => 0x400) (fun _ => 0) h (by decide +kernel)
  · exact hazardRow_of_mem (fun _ => 0) (fun _ => 0) (fun _ => 0x300) (List.mem_singleton.mpr h)
      (by decide +kernel)
  · exact hazardRow_of_mem (fun _ => 0) (fun _ => 0) (fun _ => 0x400) (List.mem_singleton.mpr h)
      (by decide +kernel)
  · exact hazardRow_of_mem (fun _ => 0) (fun _ => 0) (fun _ => 0x0FF) (List.mem_singleton.mpr h)
      (by decide +kernel)
  · exact hazardRow_of_mem (fun _ => 0) (fun _ => 0) (fun _ => 0x7FF) (List.mem_singleton.mpr h)
      (by decide +kernel)

end Sys2Proof.Proofs
end

section
/-! The encoder helpers (42_encoder_autosync.md R240 to R248): the words a rule packs by shifting and masking are the
fields that the model lays side by side. -/
namespace Sys2Proof.Proofs

open Sys2Proof Sys2Proof.Machine

/-! ### Masks and fields -/

/-- `v & mask` for a mask of the low bits is the field of those bits. -/
theorem and_lowMask {mask : Word} (len : Nat) (isMask : mask = (BitVec.allOnes len).setWidth 32) (v : Word) :
    v &&& mask = (lowBits len v).setWidth 32 := by
  rw [isMask]
  ext i inWord
  simp [lowBits, field, Bool.and_comm, BitVec.getLsbD_eq_getElem inWord]

theorem setWidth_eq_zero_append (v : BitVec 24) : v.setWidth 32 = (0 : Byte) ++ v :=
  BitVec.setWidth_eq_append (by decide)

theorem extract_zero_append (v : BitVec 24) : ((0 : Byte) ++ v).extractLsb' 0 24 = v := field_append_low 0 v

theorem cornerBits_word (x y : Word) :
    (((4 * x) &&& 0xFFF) <<< 12) ||| ((4 * y) &&& 0xFFF) = (0 : Byte) ++ cornerBits x y := by
  rw [and_lowMask (mask := 0xFFF) 12 rfl, and_lowMask (mask := 0xFFF) 12 rfl, ← setWidth_eq_zero_append]
  exact BitVec.setWidth_append_eq_shiftLeft_setWidth_or.symm

theorem imageA24_word (format stride : Word) :
    ((format &&& 0x1F) <<< 19) ||| (stride &&& 0x3FF) = (0 : Byte) ++ imageA24 format stride := by
  rw [and_lowMask (mask := 0x1F) 5 rfl, and_lowMask (mask := 0x3FF) 10 rfl, ← setWidth_eq_zero_append, imageA24,
    BitVec.setWidth_append_append_eq_shiftLeft_setWidth_or]
  simp

theorem addrWord_eq (addr : Word) : addr &&& 0xFFFFFF = addrWord addr :=
  (and_lowMask 24 rfl addr).trans (setWidth_eq_zero_append _)

theorem indexedWord_eq (index addr : Word) :
    ((index &&& 0xF) <<< 28) ||| (addr &&& 0xFFFFFF) = indexedWord index addr := by
  rw [and_lowMask (mask := 0xF) 4 rfl, and_lowMask (mask := 0xFFFFFF) 24 rfl,
    ← BitVec.setWidth_eq (indexedWord index addr), indexedWord,
    BitVec.setWidth_append_append_eq_shiftLeft_setWidth_or]
  simp

theorem halfBit_extract (half : Word) : (half &&& 1).extractLsb' 0 24 = (0 : BitVec 23) ++ lowBits 1 half := by
  rw [and_lowMask (mask := 1) 1 rfl, ← BitVec.setWidth_eq_extractLsb' (by decide),
    BitVec.setWidth_setWidth_of_le _ (by decide)]
  exact BitVec.setWidth_eq_append (by decide)

/-! ### The helpers -/

/-- R154 has one row for all the operations on the ring. -/
theorem lifecycleFault_ringOperation {op : PortOp} (ring : ringOperation op = true) (lc : Lifecycle) :
    lifecycleFault op lc = lifecycleFault .publish lc := by
  have row : admits lc op = admits lc .publish ∧ refusal lc op = refusal lc .publish := by
    cases op <;> cases ring <;> cases lc <;> exact ⟨rfl, rfl⟩
  rw [lifecycleFault_eq, lifecycleFault_eq, row.1, row.2]

/-- An operation on the ring that performs a `write(AUTO, ...)` issues as that write, the gate included. -/
theorem issue_eq_write {s : State} {h : PortOp} {op : Byte} {a24 : BitVec 24} {w : Word} {args : List Word}
    (ring : ringOperation h = true) (outside : regionOperation h = false) (packed : w.extractLsb' 0 24 = a24)
    (performs : perform s h = doHelper s op a24 args) :
    issue s h = issue s (.write .auto op (w.extractLsb' 0 24) args 0 0) := by
  unfold issue
  rw [lifecycleFault_ringOperation ring, lifecycleFault_ringOperation (op := .write ..) rfl, usesReservation_eq,
    usesReservation_eq, outside, performs, packed]
  rfl

/-- Settles O45, helper by helper. -/
theorem helpersPackFields : Obligations.HelpersPackFields := by
  intro s x0 y0 x1 y1 format stride index addr half mask value h op a24 args
  dsimp only
  simp only [cornerBits_word, imageA24_word, indexedWord_eq]
  simp only [addrWord_eq]
  intro row
  simp only [List.mem_cons, List.not_mem_nil, or_false, Prod.mk.injEq] at row
  obtain ⟨rfl, rfl, rfl, rfl⟩ | ⟨rfl, rfl, rfl, rfl⟩ | ⟨rfl, rfl, rfl, rfl⟩ | ⟨rfl, rfl, rfl, rfl⟩
    | ⟨rfl, rfl, rfl, rfl⟩ | ⟨rfl, rfl, rfl, rfl⟩ | ⟨rfl, rfl, rfl, rfl⟩ | ⟨rfl, rfl, rfl, rfl⟩
    | ⟨rfl, rfl, rfl, rfl⟩ | ⟨rfl, rfl, rfl, rfl⟩ | ⟨rfl, rfl, rfl, rfl⟩ := row
  · exact issue_eq_write rfl rfl (extract_zero_append (cornerBits x0 y0)) rfl
  · exact issue_eq_write rfl rfl (extract_zero_append (imageA24 format stride)) rfl
  · exact issue_eq_write rfl rfl (extract_zero_append (cornerBits x1 y1)) rfl
  · exact issue_eq_write rfl rfl rfl rfl
  · exact issue_eq_write rfl rfl rfl rfl
  · exact issue_eq_write rfl rfl (extract_zero_append (imageA24 format stride)) rfl
  · exact issue_eq_write rfl rfl rfl rfl
  · exact issue_eq_write rfl rfl (halfBit_extract half) rfl
  · exact issue_eq_write rfl rfl (extract_zero_append (imageA24 format stride)) rfl
  · exact issue_eq_write rfl rfl rfl rfl
  · exact issue_eq_write rfl rfl (extract_zero_append (imageA24 format stride)) rfl

end Sys2Proof.Proofs
end

section
/-! The producer's `write` and `config`: the checks of 42_encoder_autosync.md R210 in one line, the expansion of R213
class by class, and the enables of R236. -/
namespace Sys2Proof.Proofs

open Sys2Proof Sys2Proof.Machine

/-! ### Each check as a condition (R210 to R215) -/

/-- Only a client opcode whose selector is not bound has no size (30_encoding.md R112). -/
theorem opSize_eq_none {s : State} {op : Byte} : opSize s op = none ↔ 4 ≤ selOf op ∧ s.selMap[selOf op] = none := by
  unfold opSize
  split
  · next builtin => exact ⟨nofun, fun client => absurd builtin (Nat.not_lt.mpr client.1)⟩
  · next client =>
    have sel : 4 ≤ selOf op := Nat.not_lt.mp client
    split
    · next unbound => exact ⟨fun _ => ⟨sel, unbound⟩, fun _ => rfl⟩
    · next id isBound => exact ⟨nofun, fun unbound => nomatch isBound.symm.trans unbound.2⟩

/-- R212: every mask that a shape refuses is refused with the same fault. -/
theorem maskRefused_eq {α : Type} (shape : Shape) (op : Byte) (use change : HazardMask) (refused passed : α) :
    (if maskRefused shape op use change = true then refused else passed) =
      if (use ||| change) &&& ~~~0x7FF#32 ≠ 0 then refused
      else if shape = .plain ∧ use ||| change ≠ 0 then refused
      else if shape = .syncUse ∧ change ≠ 0 then refused
      else if shape = .auto ∧ (use ||| change ≠ 0 ∨ 4 ≤ selOf op) then refused
      else passed := by
  have allDefined : ~~~allMask = ~~~0x7FF#32 := rfl
  simp only [maskRefused, Bool.or_eq_true, decide_eq_true_eq, allDefined]
  by_cases reserved : (use ||| change) &&& ~~~0x7FF#32 ≠ 0
  · rw [if_pos (.inl reserved), if_pos reserved]
  · rw [if_neg reserved]
    cases shape <;> simp only [reserved, false_or, reduceCtorEq, false_and, true_and, if_false, Bool.false_eq_true,
      Bool.or_eq_true, decide_eq_true_eq]

theorem checksAddress_iff {op : Byte} :
    checksAddress op = true ↔ op ∈ ([0x10, 0x11, 0x12, 0x13, 0x3D, 0x3E, 0x3F] : List Byte) := by
  revert op
  decide +kernel

theorem checksFormat_iff {op : Byte} : checksFormat op = true ↔ op ∈ ([0x11, 0x13, 0x3D, 0x3F] : List Byte) := by
  revert op
  decide +kernel

/-- R215. -/
theorem validate_eq (p : Params) (op : Byte) (a24 : BitVec 24) (args : List Word) :
    validate p ⟨op ++ a24, args⟩ =
      if op = 0x10 ∧ (args.headD 0).extractLsb' 28 4 = 0#4 then fatal .badEnum [opWord op]
      else if op ∈ ([0x10, 0x11, 0x12, 0x13, 0x3D, 0x3E, 0x3F] : List Byte)
          ∧ ((args.headD 0).extractLsb' 0 24).toNat % p.imgAlign ≠ 0 then fatal .misaligned [opWord op]
      else if op ∈ ([0x11, 0x13, 0x3D, 0x3F] : List Byte)
          ∧ p.validImgFmt.getLsbD (a24.extractLsb' 19 5).toNat = false then fatal .badEnum [opWord op]
      else if unsupportedFeature p ⟨op ++ a24, args⟩ = true then fatal .unsupportedFeature [opWord op]
      else .ok () := by
  have format : formatOf ⟨op ++ a24, args⟩ = a24.extractLsb' 19 5 := field_append_within op a24 (by decide)
  unfold validate
  simp only [cmd_op, checksAddress_iff, checksFormat_iff, validFormat, format]
  rfl

/-! ### The checks in order (R210) -/

/-- A check that fails ends the operation; else what follows the check goes on after it. -/
theorem fatal_else_bind {α β : Type} {p : Prop} [Decidable p] (code : FaultCode) (info : List Word)
    (r : Except Halt α) (k : α → Except Halt β) :
    (if p then fatal code info else r) >>= k = if p then fatal code info else r >>= k := by
  split <;> rfl

/-- The state after the expansion of a write of `c` (R213). -/
def expanded (s : State) (c : Cmd) (chg use : HazardMask) : State :=
  { s with
    pq := (expandWrite s.autosyncCfg s.autosync c chg use).1
    autosync := (expandWrite s.autosyncCfg s.autosync c chg use).2 }

/-- `write` is its four checks, one after the other, and the expansion. -/
theorem doWrite_eq (s : State) (shape : Shape) (op : Byte) (a24 : BitVec 24) (args : List Word)
    (use change : HazardMask) :
    doWrite s shape op a24 args use change =
      checkOpcode s ⟨op ++ a24, args⟩ >>= fun _ =>
        if maskRefused shape op use change = true then fatal .badMask [use, change]
        else
          validate s.params ⟨op ++ a24, args⟩ >>= fun _ =>
            .ok (expanded s ⟨op ++ a24, args⟩ (writeMasks shape ⟨op ++ a24, args⟩ use change).1
              (writeMasks shape ⟨op ++ a24, args⟩ use change).2) := by
  unfold doWrite
  dsimp only
  cases checkOpcode s ⟨op ++ a24, args⟩ with
  | error h => rfl
  | ok _ => cases validate s.params ⟨op ++ a24, args⟩ <;> rfl

/-- The first check that fails gives the fault; a step whose checks pass goes on. -/
theorem settle_check {s : State} (running : s.fault = none) {p : Prop} [Decidable p] {code : FaultCode}
    {info : List Word} {r : Except Halt State} {Q : State → Prop}
    (passes : ∃ t, settle .producer (takeTurn s) r = .next t ∧ Q t) :
    ∃ t, settle .producer (takeTurn s) (if p then fatal code info else r) = .next t
      ∧ if p then t = faulted s .producer code info else Q t := by
  split
  · exact ⟨_, settle_takeTurn_raise running code info, rfl⟩
  · exact passes

/-- In STARTED with no open reservation the gate lets `write` pass. -/
theorem step_write {s : State} {shape : Shape} {op : Byte} {a24 : BitVec 24} {args : List Word}
    {use change : HazardMask} {ops : List PortOp} (h : Issues s (.write shape op a24 args use change) ops)
    (lc : s.lc = .started) (closed : s.resN = 0) :
    step s = settle .producer (takeTurn s) (doWrite (issued s ops) shape op a24 args use change) := by
  have admitted : admits s.lc (.write shape op a24 args use change) = true := by
    rw [lc]
    rfl
  exact step_admitted h admitted fun opened => opened.1 closed

/-- Settles O39: the checks of the model, flattened, are those of the rule, and each ends the step or lets it pass. -/
theorem writeChecksInOrder : Obligations.WriteChecksInOrder := by
  intro s shape op a24 args use change ops h lc closed
  have reserved : (op = 0x00 ∨ op = 0x02 ∨ op = 0x29 ∨ opSize s op = some 0)
      ↔ (op ∈ ([0x00, 0x02, 0x29] : List Byte) ∨ opSize s op = some 0) := by simp [or_assoc]
  rw [step_write h lc closed, doWrite_eq]
  simp only [checkOpcode_eq, maskRefused_eq, validate_eq, fatal_else_bind, opSize_issued, opSize_eq_none, cmd_op,
    issued_params, reserved]
  iterate 11 refine settle_check h.1.2 ?_
  exact ⟨expanded (issued s ops) ⟨op ++ a24, args⟩ _ _, rfl, (issued_fault s ops).trans h.1.2⟩

/-! ### The expansion (R213) -/

/-- One class's automatic sync is the sync or nothing, and clears the class or nothing. -/
theorem autoSync_eq (enabled : Bool) (sync : Cmd) (mask hit : HazardMask) (p : List MicroStep) (a : HazardMask) :
    autoSync enabled sync mask hit (p, a) =
      (p ++ if (decide (hit &&& mask ≠ 0) && enabled) = true then [.emit sync mask 0] else [],
        a &&& ~~~if (decide (hit &&& mask ≠ 0) && enabled) = true then mask else 0) := by
  have same : (decide (hit &&& mask ≠ 0) && enabled) = true ↔ hit &&& mask ≠ 0 ∧ enabled = true := by simp
  simp only [same]
  unfold autoSync
  split
  · rfl
  · have nothing : a &&& ~~~(0 : HazardMask) = a := BitVec.and_allOnes
    rw [List.append_nil, nothing]

/-- The masks of a write are the table's for AUTO, else the operands. -/
theorem writeMasks_eq (shape : Shape) (c : Cmd) (use change : HazardMask) :
    writeMasks shape c use change =
      (if shape = .auto then hzChange c else change, if shape = .auto then hzUse c else use) := by
  cases shape <;> rfl

theorem doWrite_ok {s t : State} {shape : Shape} {op : Byte} {a24 : BitVec 24} {args : List Word}
    {use change : HazardMask} (h : doWrite s shape op a24 args use change = .ok t) :
    checkOpcode s ⟨op ++ a24, args⟩ = .ok () ∧ maskRefused shape op use change = false
      ∧ t = expanded s ⟨op ++ a24, args⟩ (writeMasks shape ⟨op ++ a24, args⟩ use change).1
        (writeMasks shape ⟨op ++ a24, args⟩ use change).2 := by
  unfold doWrite at h
  dsimp only at h
  split at h
  · cases h
  · next opcode =>
    split at h
    · cases h
    · next masks =>
      split at h
      · cases h
      · exact ⟨opcode, by simpa using masks, (Except.ok.inj h).symm⟩

/-- An issue step that completes performs its operation. -/
theorem perform_of_issue {s t : State} {op : PortOp} (h : issue s op = .ok t) : perform s op = .ok t := by
  unfold issue at h
  split at h
  · cases h
  · split at h
    · cases h
    · exact h

/-- A step that leaves no fault record completed. -/
theorem settle_ok_of_running {a : Agent} {s t : State} {r : Except Halt State}
    (next : settle a (takeTurn s) r = .next t) (running : s.fault = none) (noFault : t.fault = none) : r = .ok t := by
  obtain ok | ⟨code, info, -, rfl⟩ := settle_next next
  · exact ok
  · rw [← faulted_eq_raise running] at noFault
    cases noFault

/-- Settles O40: a write that raises no fault completes with the expansion, class by class. -/
theorem writeEmitsNeededSyncs : Obligations.WriteEmitsNeededSyncs := by
  intro s shape op a24 args use change ops t h next noFault
  rw [step_issues h] at next
  obtain ⟨-, -, rfl⟩ := doWrite_ok (perform_of_issue (settle_ok_of_running next h.1.2 noFault))
  have clears (a x y z : HazardMask) : a &&& ~~~(x ||| y ||| z) = a &&& ~~~x &&& ~~~y &&& ~~~z := by
    simp only [BitVec.not_or, BitVec.and_assoc]
  rw [writeMasks_eq]
  dsimp only [expanded, expandWrite]
  simp only [autoSync_eq, issued_autosync, issued_autosyncCfg, clears]
  rfl

/-! ### `config` (R236) -/

/-- Settles O44: behind the gate, the one check of `config` and its writes. -/
theorem configSetsEnables : Obligations.ConfigSetsEnables := by
  intro s enable disable ops h
  have low (v : Word) : lowBits 3 v = v.setWidth 3 := (BitVec.setWidth_eq_extractLsb' (by decide)).symm
  refine step_gate h ?_
  show settle .producer (takeTurn s) (doConfig (issued s ops) enable disable) = _
  unfold doConfig
  split
  · exact settle_takeTurn_raise h.1.2 .badMask [enable, disable]
  · rw [settle_ok, low, low, issued_autosyncCfg]

end Sys2Proof.Proofs
end

section
/-! RZ_HAZARD is the RASTERIZER's fault only (60_exceptions.md R402, R421): no check of PRODUCER, CONSUMER or FENCE_IRQ
raises it. -/
namespace Sys2Proof.Proofs

open Sys2Proof Sys2Proof.Machine

/-- A computation that does not end in RZ_HAZARD. -/
def NoHazard {α : Type} (r : Except Halt α) : Prop := ∀ info, r ≠ .error (.raise .rzHazard info)

/-- A fault passed on is the fault of the check that raised it. -/
theorem noHazard_error {α β : Type} {r : Except Halt α} {e : Halt} (h : NoHazard r) (failed : r = .error e) :
    NoHazard (.error e : Except Halt β) := by
  intro info same
  cases same
  exact h info failed

/-! ### PRODUCER -/

theorem checkOpcode_noHazard (s : State) (c : Cmd) : NoHazard (checkOpcode s c) := by
  unfold checkOpcode
  split
  · exact nofun
  · split_ifs <;> exact nofun

theorem validate_noHazard (p : Params) (c : Cmd) : NoHazard (validate p c) := by
  unfold validate
  split_ifs <;> exact nofun

theorem doWrite_noHazard (s : State) (shape : Shape) (op : Byte) (a24 : BitVec 24) (args : List Word)
    (use change : HazardMask) : NoHazard (doWrite s shape op a24 args use change) := by
  unfold doWrite
  dsimp only
  split
  · next failed => exact noHazard_error (checkOpcode_noHazard _ _) failed
  · split
    · exact nofun
    · split
      · next failed => exact noHazard_error (validate_noHazard _ _) failed
      · exact nofun

theorem doRegister_noHazard (s : State) (d : DescriptorArg) (id : Option Word) : NoHazard (doRegister s d id) := by
  unfold doRegister
  split
  · exact nofun
  · dsimp only
    split
    · split <;> exact nofun
    · split_ifs <;> exact nofun

theorem doBind_noHazard (s : State) (id sel : Word) : NoHazard (doBind s id sel) := by
  unfold doBind
  split_ifs <;> exact nofun

theorem doPublish_noHazard (s : State) : NoHazard (doPublish s) := by
  unfold doPublish
  split
  · exact nofun
  · split
    · exact nofun
    · split
      · next failed => exact noHazard_error (checkOpcode_noHazard _ _) failed
      · exact nofun

theorem doReserve_noHazard (s : State) (n : Word) : NoHazard (doReserve s n) := by
  unfold doReserve
  split <;> exact nofun

theorem doStore_noHazard (s : State) (k w : Word) : NoHazard (doStore s k w) := by
  unfold doStore
  split <;> exact nofun

theorem doConfig_noHazard (s : State) (enable disable : Word) : NoHazard (doConfig s enable disable) := by
  unfold doConfig
  split <;> exact nofun

theorem perform_noHazard (s : State) (op : PortOp) : NoHazard (perform s op) := by
  cases op with
  | init =>
    intro info failed
    obtain ⟨⟨f, access⟩, -⟩ := doInit_error failed
    cases access
  | close | start | syncPipe | syncTile | syncLoad | fence | wait => exact nofun
  | register => exact doRegister_noHazard _ _ _
  | bind => exact doBind_noHazard _ _ _
  | reserve => exact doReserve_noHazard _ _
  | store => exact doStore_noHazard _ _ _
  | publish => exact doPublish_noHazard _
  | config => exact doConfig_noHazard _ _ _
  | _ => exact doWrite_noHazard _ _ _ _ _ _ _

theorem issue_noHazard (s : State) (op : PortOp) : NoHazard (issue s op) := by
  cases admitted : admits s.lc op with
  | false =>
    intro info
    rw [issue_refused admitted]
    unfold refusal
    split_ifs <;> exact nofun
  | true =>
    by_cases inside : s.resN ≠ 0 ∧ regionOperation op = false
    · rw [issue_reserved admitted inside.1 inside.2]
      exact nofun
    · rw [issue_admitted admitted inside]
      exact perform_noHazard s op

theorem switchBuffer_noHazard (s : State) : NoHazard (switchBuffer s) := by
  unfold switchBuffer
  split
  · exact nofun
  · split <;> exact nofun

theorem producerStep_noHazard (s : State) : NoHazard (producerStep s) := by
  unfold producerStep
  split
  · next m rest head =>
    cases m with
    | emit c clr use => exact fun _ => emitCommand_ne_raise
    | switch =>
      unfold microStep
      dsimp only
      split
      · exact switchBuffer_noHazard _
      · exact nofun
    | waitf | drain =>
      unfold microStep
      dsimp only
      split <;> exact nofun
    | closeCommit => exact nofun
  · split
    · exact nofun
    · exact issue_noHazard _ _

/-! ### CONSUMER -/

theorem overlayExtent_noHazard (s : State) (op : Byte) : NoHazard (overlayExtent s op) := by
  unfold overlayExtent
  split
  · exact nofun
  · dsimp only
    split_ifs <;> exact nofun

theorem fetch_noHazard (s : State) : NoHazard (fetch s) := by
  have size (op : Byte) : NoHazard (commandSize s op) := by
    unfold commandSize
    split
    · split <;> exact nofun
    · split
      · next failed => exact noHazard_error (overlayExtent_noHazard s op) failed
      · exact nofun
  unfold fetch
  split
  · exact nofun
  · split
    · next failed => exact noHazard_error (size _) failed
    · split <;> exact nofun

theorem rejectFault_noHazard (s : State) (r : Reject) : NoHazard (.error (rejectFault s r) : Except Halt State) := by
  cases r <;> exact fun _ same => nomatch Except.error.inj same

theorem clientHandler_noHazard (s : State) (id : Fin 16) (c : Cmd) : NoHazard (clientHandler s id c) := by
  unfold clientHandler
  split
  · split
    · exact nofun
    · split
      · exact nofun
      · split <;> exact nofun
  · exact nofun

theorem handlerOf_noHazard (s : State) (id : Fin 16) (c : Cmd) (builtin : Option (List Cmd × State)) :
    NoHazard (handlerOf s id c builtin) := by
  unfold handlerOf
  split
  · split <;> exact nofun
  · exact clientHandler_noHazard s id c

theorem commitCommand_noHazard (s : State) (id : Fin 16) (n : Nat) (out : List Cmd) (t : State) :
    NoHazard (commitCommand s id n out t) := by
  unfold commitCommand
  split
  · exact nofun
  · split <;> exact nofun

theorem dispatch_noHazard (s : State) (c : Cmd) (builtin : Option (List Cmd × State)) :
    NoHazard (dispatch s c builtin) := by
  unfold dispatch
  split
  · next failed => exact noHazard_error (overlayExtent_noHazard s c.op) failed
  · split
    · next failed => exact noHazard_error (handlerOf_noHazard _ _ _ _) failed
    · exact commitCommand_noHazard _ _ _ _ _

/-! ### The fault record after a step -/

/-- FAULT does not hold RZ_HAZARD. -/
def NoHazardRecord (t : State) : Prop := ∀ r, t.fault = some r → r.code ≠ .rzHazard

theorem noHazardRecord_of_none {t : State} (h : t.fault = none) : NoHazardRecord t := by
  intro r recorded
  rw [h] at recorded
  cases recorded

theorem settle_noHazard {a : Agent} {s t : State} {r : Except Halt State} (running : s.fault = none)
    (next : settle a s r = .next t) (noHazard : NoHazard r) (kept : ∀ u, r = .ok u → u.fault = s.fault) :
    NoHazardRecord t := by
  obtain ok | ⟨code, info, raised, rfl⟩ := settle_next next
  · exact noHazardRecord_of_none ((kept t ok).trans running)
  · intro r recorded
    rw [raise_of_none running] at recorded
    cases recorded
    rintro rfl
    exact noHazard info raised

theorem settle_error_noHazard {a : Agent} {s t : State} {e : Halt} (running : s.fault = none)
    (next : settle a s (.error e) = .next t) (noHazard : NoHazard (.error e : Except Halt State)) :
    NoHazardRecord t :=
  settle_noHazard running next noHazard fun _ completed => by cases completed

theorem producerOutcome_fault {s t : State} (outcome : ProducerOutcome s t) : t.fault = s.fault := by
  cases outcome with
  | rests | passes | commits => rfl
  | emits head emit =>
    obtain ⟨-, -, rfl⟩ := emitCommand_ok emit
    rfl
  | switches head guard switch =>
    obtain ⟨-, -, -, rfl⟩ := switchBuffer_ok switch
    rfl
  | @issues op ops t empty host outcome => exact issueOutcome_fault (s := { s with hostOps := ops }) outcome

/-- A dispatched command that completes writes nothing of FAULT (60_exceptions.md R401). -/
theorem dispatch_fault {s t : State} {i : Instr} (h : dispatch s (encodeCmd i) (builtinAnswer s i) = .ok t) :
    t.fault = s.fault := by
  obtain ⟨id, n, out, u, -, handled, commit⟩ := dispatch_ok h
  obtain ⟨-, ⟨-, rfl⟩ | ⟨-, rfl⟩⟩ := commitCommand_ok commit
  · rfl
  · rw [(handlerOf_writes handled).1]
    rfl

theorem exec_noHazard {i : Instr} {s t : State} (running : s.fault = none) (executed : exec i s = .next t) :
    NoHazardRecord t := by
  by_cases external : selOf i.opcode ≠ 0
  · rw [exec_eq_dispatch external] at executed
    exact settle_noHazard running executed (dispatch_noHazard _ _ _) fun u => dispatch_fault
  · obtain ⟨ignored, rfl⟩ | ⟨ignored, rfl⟩ | ⟨target, rfl⟩ := internal_of_selOf (Decidable.not_not.mp external)
    · refine settle_noHazard (a := .consumer) (r := .ok _) running executed (fun _ => nofun) fun u ok => ?_
      cases ok
      split <;> rfl
    · refine settle_noHazard (a := .consumer) (r := .ok _) running executed (fun _ => nofun) fun u ok => ?_
      cases ok
      rfl
    · refine settle_noHazard running executed ?_ fun u ok => ?_
      · split <;> exact nofun
      · split at ok
        · cases ok
          rfl
        · cases ok

theorem consumerStep_noHazard {s t : State} (running : s.fault = none) (next : consumerStep s = .next t) :
    NoHazardRecord t := by
  unfold consumerStep at next
  split at next
  · cases next
    exact noHazardRecord_of_none running
  · split at next
    · next failed => exact settle_error_noHazard running next (noHazard_error (fetch_noHazard s) failed)
    · split at next
      · next r _ => exact settle_error_noHazard running next (rejectFault_noHazard s r)
      · exact exec_noHazard running next

/-- The observer alone raises RZ_HAZARD, on a head of RZ_Q that changes a resource in use (R421). -/
theorem step_noHazard {s t : State} (running : s.fault = none) (next : step s = .next t)
    (free : ∀ c q, s.rzQ = c :: q → hazardHit s.rzInuse c = 0) : NoHazardRecord t := by
  have running' : (takeTurn s).fault = none := (takeTurn_fault s).trans running
  cases turn : nextTurn s with
  | powerOn =>
    rw [step_powerOn turn] at next
    cases next
    exact noHazardRecord_of_none rfl
  | agent a =>
    cases a with
    | producer =>
      rw [step_producer ⟨turn, running⟩] at next
      exact settle_noHazard running' next (producerStep_noHazard _) fun u ok =>
        producerOutcome_fault (producer_outcome ok)
    | consumer =>
      rw [step_consumer ⟨turn, running⟩] at next
      exact consumerStep_noHazard running' next
    | rasterizer =>
      rw [step_rasterizer ⟨turn, running⟩] at next
      refine settle_noHazard running' next ?_ fun u ok => ?_
      · unfold rasterizerStep
        split
        · exact nofun
        · next c q head =>
          rw [takeTurn_rzQ] at head
          rw [takeTurn_rzInuse, free c q head]
          exact nofun
      · cases rasterizer_outcome ok <;> rfl
    | fenceIrq =>
      rw [step_fenceIrq ⟨turn, running⟩] at next
      refine settle_noHazard running' next ?_ fun u ok => ?_
      · unfold fenceStep
        split
        · exact nofun
        · split <;> exact nofun
      · cases fence_outcome ok <;> rfl

end Sys2Proof.Proofs
end

section
/-! The hazard tracker never under-syncs (42_encoder_autosync.md R222): along everything the rasterizer has still to
receive, AUTOSYNC covers the observer's mask, so a `write` syncs every class that its command changes in use. -/
namespace Sys2Proof.Proofs

open Sys2Proof Sys2Proof.Machine

/-! ### Masks, bit by bit -/

/-- Every bit of `m` is one of `a`. -/
abbrev Covers (a m : HazardMask) : Prop := m &&& ~~~a = 0

theorem covers_iff {a m : HazardMask} : Covers a m ↔ ∀ k, m.getLsbD k = true → a.getLsbD k = true := by
  constructor
  · intro covers k inMask
    have bit := congrArg (BitVec.getLsbD · k) covers
    simpa [inMask, BitVec.lt_of_getLsbD inMask] using bit
  · intro covers
    apply BitVec.eq_of_getLsbD_eq
    intro k inWord
    have bit := covers k
    cases inMask : m.getLsbD k <;> simp_all

theorem Covers.trans {a b m : HazardMask} (first : Covers b m) (second : Covers a b) : Covers a m :=
  covers_iff.mpr fun k inMask => covers_iff.mp second k (covers_iff.mp first k inMask)

theorem disjoint_iff {a m : HazardMask} : m &&& a = 0 ↔ ∀ k, m.getLsbD k = true → a.getLsbD k = false := by
  constructor
  · intro disjoint k inMask
    have bit := congrArg (BitVec.getLsbD · k) disjoint
    simpa [inMask] using bit
  · intro disjoint
    apply BitVec.eq_of_getLsbD_eq
    intro k inWord
    have bit := disjoint k
    cases inMask : m.getLsbD k <;> simp_all

theorem disjoint_of_covers {a b m : HazardMask} (disjoint : m &&& a = 0) (covers : Covers a b) : m &&& b = 0 :=
  disjoint_iff.mpr fun k inMask => by
    have outside := disjoint_iff.mp disjoint k inMask
    cases inside : b.getLsbD k with
    | false => rfl
    | true =>
      rw [covers_iff.mp covers k inside] at outside
      cases outside

/-- The update of a hazard mask is monotone (R213, 60_exceptions.md R421). -/
theorem hazardUpdate_covers {a m u v : HazardMask} (clr : HazardMask) (mask : Covers a m) (use : Covers v u) :
    Covers (hazardUpdate a clr v) (hazardUpdate m clr u) := by
  rw [covers_iff] at mask use ⊢
  intro k updated
  simp only [hazardUpdate, BitVec.getLsbD_or, BitVec.getLsbD_and, Bool.or_eq_true, Bool.and_eq_true] at updated ⊢
  exact updated.imp (fun kept => ⟨mask k kept.1, kept.2⟩) (use k)

/-- The change masks of the hazard table stay within the defined bits (R220). -/
theorem hzChange_reserved (c : Cmd) : Covers allMask (hzChange c) := by
  have tile := tileBit_reserved (tileOf c)
  have pipe : pipeBit &&& ~~~allMask = 0 := by decide
  have tmem : tmemBit0 &&& ~~~allMask = 0 := by decide
  have nothing : (0 : HazardMask) &&& ~~~allMask = 0 := by decide
  unfold hzChange
  split <;> simp only [Covers, tile, pipe, tmem, nothing]

/-! ### The observer along a list of commands (60_exceptions.md R421) -/

theorem inuseAfter_append (m : HazardMask) (cs ds : List Cmd) :
    inuseAfter m (cs ++ ds) = inuseAfter (inuseAfter m cs) ds := by
  induction cs generalizing m with
  | nil => rfl
  | cons c cs ih => exact ih _

theorem hazardFree_append (m : HazardMask) (cs ds : List Cmd) :
    hazardFree m (cs ++ ds) ↔ hazardFree m cs ∧ hazardFree (inuseAfter m cs) ds := by
  induction cs generalizing m with
  | nil => exact (true_and _).symm ▸ Iff.rfl
  | cons c cs ih => simp only [List.cons_append, hazardFree, inuseAfter, ih, and_assoc]

/-- From the observer's mask `m` on, no command of the list changes a resource in use, and `a` covers the mask after
it. -/
structure Synced (m a : HazardMask) (cs : List Cmd) : Prop where
  free : hazardFree m cs
  covered : Covers a (inuseAfter m cs)

/-- One more command that changes nothing in use. -/
theorem Synced.snoc {m a b : HazardMask} {cs : List Cmd} {c : Cmd} (h : Synced m a cs)
    (free : hzChange c &&& a = 0) (covered : Covers b (hazardUpdate a (hzClear c) (hzUse c))) :
    Synced m b (cs ++ [c]) where
  free := by
    have noHit : hazardHit (inuseAfter m cs) c = 0 := disjoint_of_covers free h.covered
    exact (hazardFree_append m cs [c]).mpr ⟨h.free, noHit, trivial⟩
  covered := by
    rw [inuseAfter_append]
    exact (hazardUpdate_covers (hzClear c) h.covered (BitVec.and_not_self _)).trans covered

/-- The observer sees the same of `out` as of `c`. -/
def SameEffect (out : List Cmd) (c : Cmd) : Prop :=
  ∀ m, (hazardFree m [c] → hazardFree m out) ∧ inuseAfter m out = inuseAfter m [c]

theorem Synced.replace {m a : HazardMask} {us vs out : List Cmd} {c : Cmd} (effect : SameEffect out c)
    (h : Synced m a (us ++ c :: vs)) : Synced m a (us ++ out ++ vs) := by
  have after : inuseAfter m (us ++ out) = inuseAfter m (us ++ [c]) := by
    rw [inuseAfter_append, inuseAfter_append, (effect _).2]
  obtain ⟨free, covered⟩ := h
  rw [← List.singleton_append, ← List.append_assoc] at free covered
  rw [hazardFree_append, hazardFree_append, ← after] at free
  obtain ⟨⟨before, now⟩, later⟩ := free
  rw [inuseAfter_append, ← after, ← inuseAfter_append] at covered
  refine ⟨?_, covered⟩
  rw [hazardFree_append, hazardFree_append]
  exact ⟨⟨before, (effect _).1 now⟩, later⟩

/-! ### The expansion of a write (R213) -/

/-- A sync clears its class for the observer and for AUTOSYNC alike. -/
theorem Synced.sync {m a mask : HazardMask} {cs : List Cmd} {sync : Cmd} (row : HazardRow sync 0 0 mask)
    (h : Synced m a cs) : Synced m (a &&& ~~~mask) (cs ++ [sync]) := by
  obtain ⟨use, change, clear⟩ := row
  refine h.snoc (by rw [change]; exact BitVec.zero_and) ?_
  have cleared : hazardUpdate a mask 0 = a &&& ~~~mask := BitVec.or_zero
  rw [use, clear, cleared]
  exact BitVec.and_not_self _

theorem autoSync_synced {m mask : HazardMask} {cs : List Cmd} {sync : Cmd} {qa : List MicroStep × HazardMask}
    (row : HazardRow sync 0 0 mask) (enabled : Bool) (hit : HazardMask) (h : Synced m qa.2 (cs ++ emitsOf qa.1)) :
    Synced m (autoSync enabled sync mask hit qa).2 (cs ++ emitsOf (autoSync enabled sync mask hit qa).1) := by
  unfold autoSync
  split
  · rw [emitsOf_append, ← List.append_assoc]
    exact h.sync row
  · exact h

/-- A class's sync only clears bits of AUTOSYNC. -/
theorem autoSync_covers (enabled : Bool) (sync : Cmd) (mask hit : HazardMask) (qa : List MicroStep × HazardMask) :
    Covers qa.2 (autoSync enabled sync mask hit qa).2 := by
  unfold autoSync
  split
  · exact covers_iff.mpr fun k kept => by
      rw [BitVec.getLsbD_and, Bool.and_eq_true] at kept
      exact kept.1
  · exact BitVec.and_not_self _

/-- An enabled class keeps no bit that is hit. -/
theorem autoSync_clears (sync : Cmd) (mask hit : HazardMask) (qa : List MicroStep × HazardMask) :
    hit &&& mask &&& (autoSync true sync mask hit qa).2 = 0 := by
  unfold autoSync
  split
  · refine disjoint_iff.mpr fun k isHit => ?_
    rw [BitVec.getLsbD_and, Bool.and_eq_true] at isHit
    simp [isHit.2]
  · next noHit =>
    have nothing : hit &&& mask = 0 := by simpa using noHit
    rw [nothing]
    exact BitVec.zero_and

/-- What no class keeps, AUTOSYNC does not keep (10_state.md R50). -/
theorem hit_cleared {hit a : HazardMask} (tile : hit &&& tileMask &&& a = 0) (tmem : hit &&& tmemMask &&& a = 0)
    (pipe : hit &&& pipeMask &&& a = 0) : hit &&& allMask &&& a = 0 := by
  have classes : allMask = tileMask ||| tmemMask ||| pipeMask := by decide
  rw [classes, BitVec.and_or_distrib_left, BitVec.and_or_distrib_left, BitVec.and_or_distrib_right,
    BitVec.and_or_distrib_right, tile, tmem, pipe]
  rfl

/-- With every class enabled and the masks of a write at least those of the table, its command changes nothing that is
still in use after the syncs, and AUTOSYNC gains what the command uses (R222). -/
theorem expandWrite_synced {m a chg use : HazardMask} {cs : List Cmd} {c : Cmd} (uses : Covers use (hzUse c))
    (changes : Covers chg (hzChange c)) (h : Synced m a cs) :
    Synced m (expandWrite 0b111 a c chg use).2 (cs ++ emitsOf (expandWrite 0b111 a c chg use).1) := by
  obtain ⟨q1, tile⟩ : ∃ q1, q1 = autoSync true syncTileCmd tileMask (chg &&& a) ([], a) := ⟨_, rfl⟩
  obtain ⟨q2, load⟩ : ∃ q2, q2 = autoSync true syncLoadCmd tmemMask (chg &&& a) q1 := ⟨_, rfl⟩
  obtain ⟨q3, pipe⟩ : ∃ q3, q3 = autoSync true syncPipeCmd pipeMask (chg &&& a) q2 := ⟨_, rfl⟩
  have expansion : expandWrite 0b111 a c chg use
      = (q3.1 ++ [.emit c (hzClear c) use], hazardUpdate q3.2 (hzClear c) use) := by
    rw [pipe, load, tile]
    rfl
  have synced : Synced m q3.2 (cs ++ emitsOf q3.1) := by
    rw [pipe, load, tile]
    refine autoSync_synced (by decide) true _ (autoSync_synced (by decide) true _
      (autoSync_synced (by decide) true _ ?_))
    rw [emitsOf, List.append_nil]
    exact h
  have covers1 : Covers a q1.2 := tile ▸ autoSync_covers ..
  have covers2 : Covers q1.2 q2.2 := load ▸ autoSync_covers ..
  have covers3 : Covers q2.2 q3.2 := pipe ▸ autoSync_covers ..
  have cleared : chg &&& a &&& allMask &&& q3.2 = 0 :=
    hit_cleared (disjoint_of_covers (tile ▸ autoSync_clears ..) (covers3.trans covers2))
      (disjoint_of_covers (load ▸ autoSync_clears ..) covers3) (pipe ▸ autoSync_clears ..)
  have free : hzChange c &&& q3.2 = 0 := by
    refine disjoint_iff.mpr fun k changed => ?_
    cases kept : q3.2.getLsbD k with
    | false => rfl
    | true =>
      have inUse := covers_iff.mp ((covers3.trans covers2).trans covers1) k kept
      have hit : (chg &&& a &&& allMask).getLsbD k = true := by
        simp [inUse, covers_iff.mp changes k changed, covers_iff.mp (hzChange_reserved c) k changed]
      exact kept.symm.trans (disjoint_iff.mp cleared k hit)
  rw [expansion, emitsOf_append, ← List.append_assoc]
  exact synced.snoc free (hazardUpdate_covers _ (BitVec.and_not_self _) uses)

end Sys2Proof.Proofs
end

section
/-! Every step keeps the tracker's invariant (42_encoder_autosync.md R222), agent by agent: what the rasterizer has
still to receive moves from PQ to the ring and on to RZ_Q, and PRODUCER appends to it what AUTOSYNC lets pass. -/
namespace Sys2Proof.Proofs

open Sys2Proof Sys2Proof.Machine

/-! ### What the invariant reads of the state -/

/-- Everything the rasterizer has still to receive, in order. -/
def toCome (s : State) (q : List Cmd) : List Cmd := s.rzQ ++ q ++ emitsOf s.pq

theorem synced_of_trackerInv {s : State} {q : List Cmd} (h : TrackerInv s q) :
    Synced s.rzInuse s.autosync (toCome s q) := ⟨h.free, h.covered⟩

/-- The elements that the tracker reads, the commands on their way apart, are the same in both states. -/
structure SameTracker (s t : State) : Prop where
  rzInuse : t.rzInuse = s.rzInuse
  autosync : t.autosync = s.autosync
  autosyncCfg : t.autosyncCfg = s.autosyncCfg
  hostOps : t.hostOps = s.hostOps

theorem trackerInv_of_same {s t : State} {q q' : List Cmd} (h : TrackerInv s q) (same : SameTracker s t)
    (builtin : ∀ c ∈ q' ++ emitsOf t.pq, selOf c.op < 4) (synced : Synced s.rzInuse s.autosync (toCome t q')) :
    TrackerInv t q' where
  enabled := same.autosyncCfg.trans h.enabled
  host := same.hostOps ▸ h.host
  builtin := builtin
  free := same.rzInuse ▸ synced.free
  covered := same.rzInuse ▸ same.autosync ▸ synced.covered

/-- A step that only moves a command on, or none. -/
theorem trackerInv_moved {s t : State} {q q' : List Cmd} (h : TrackerInv s q) (same : SameTracker s t)
    (rzQ : t.rzQ = s.rzQ) (moved : q' ++ emitsOf t.pq = q ++ emitsOf s.pq) : TrackerInv t q' := by
  refine trackerInv_of_same h same (moved ▸ h.builtin) ?_
  rw [toCome, rzQ, List.append_assoc, moved, ← List.append_assoc]
  exact synced_of_trackerInv h

theorem trackerInv_takeTurn {s : State} {q : List Cmd} (h : TrackerInv s q) : TrackerInv (takeTurn s) q :=
  trackerInv_moved h (by constructor <;> simp) (by simp) (by simp)

theorem trackerInv_raise {s : State} {q : List Cmd} (h : TrackerInv s q) (a : Agent) (code : FaultCode)
    (info : List Word) : TrackerInv (raise s a code info) q :=
  trackerInv_moved h (by constructor <;> simp) (by simp) (by simp)

/-- At its reset values the tracker has nothing to cover; the host's operations stay (10_state.md R60). -/
theorem trackerInv_cleared {s t : State} {q : List Cmd} (h : TrackerInv s q) (cfg : t.autosyncCfg = 0b111)
    (hostOps : t.hostOps = s.hostOps) (rzQ : t.rzQ = []) (rzInuse : t.rzInuse = 0) (pq : t.pq = []) :
    TrackerInv t [] where
  enabled := cfg
  host := hostOps ▸ h.host
  builtin := by simp [pq, emitsOf]
  free := by
    rw [rzQ, pq]
    trivial
  covered := by
    rw [rzQ, pq, rzInuse]
    exact BitVec.zero_and

/-! ### RASTERIZER and FENCE_IRQ -/

/-- The head of RZ_Q changes nothing in use (60_exceptions.md R421). -/
theorem head_free {s : State} {q rest : List Cmd} {c : Cmd} (h : TrackerInv s q) (head : s.rzQ = c :: rest) :
    hazardHit s.rzInuse c = 0 := by
  have free := h.free
  rw [head] at free
  exact free.1

theorem trackerInv_rasterizer {s t : State} {q : List Cmd} (h : TrackerInv s q) (outcome : RasterizerOutcome s t) :
    TrackerInv t q := by
  cases outcome with
  | rests => exact h
  | @completes c rest head =>
    have free := h.free
    have covered := h.covered
    rw [head] at free covered
    exact { h with free := free.2, covered := covered }

theorem trackerInv_fenceIrq {s t : State} {q : List Cmd} (h : TrackerInv s q) (outcome : FenceOutcome s t) :
    TrackerInv t q := by
  cases outcome <;> exact { h with }

/-! ### CONSUMER -/

/-- A command in the rows without masks forwards nothing (42_encoder_autosync.md R220). -/
theorem sameEffect_nil {c : Cmd} (row : HazardRow c 0 0 0) : SameEffect [] c := by
  intro m
  obtain ⟨use, -, clear⟩ := row
  have kept : hazardUpdate m 0 0 = m := by
    have all : m &&& ~~~(0 : HazardMask) = m := BitVec.and_allOnes
    rw [hazardUpdate, all]
    exact BitVec.or_zero
  refine ⟨fun _ => trivial, ?_⟩
  simp only [inuseAfter, use, clear, kept]

/-- A command is forwarded as one of the same row of the table (R220). -/
theorem sameEffect_singleton {c d : Cmd} {use change clear : HazardMask} (rowC : HazardRow c use change clear)
    (rowD : HazardRow d use change clear) : SameEffect [d] c := by
  intro m
  obtain ⟨use, change, clear⟩ := rowC
  obtain ⟨useD, changeD, clearD⟩ := rowD
  simp only [hazardFree, inuseAfter, hazardHit, use, change, clear, useD, changeD, clearD, imp_self, and_self]

theorem hazardRow_none {c : Cmd} (h : c.op ∈ ([0x01, 0x10] : List Byte)) : HazardRow c 0 0 0 :=
  (hazardTableRows c).1 h

theorem hazardRow_pipe {c : Cmd} (h : c.op ∈ ([0x11, 0x12, 0x13, 0x14, 0x2F, 0x3D, 0x3E, 0x3F] : List Byte)) :
    HazardRow c 0 0x400 0 := by
  obtain ⟨-, -, -, -, -, pipe, -⟩ := hazardTableRows c
  refine pipe ?_
  revert h
  generalize c.op = op
  revert op
  decide +kernel

/-- The built-in overlay forwards what the observer sees as the command itself (44_rasterizer_commands.md R300,
45_fixup_commands.md R370 to R376). -/
theorem builtinAnswer_sameEffect {s u : State} {i : Instr} {out : List Cmd} (h : builtinAnswer s i = some (out, u)) :
    SameEffect out (encodeCmd i) := by
  cases i with
  | setLookupAddress =>
    cases h
    exact sameEffect_nil (hazardRow_none (by rw [encodeCmd_op]; simp [Instr.opcode]))
  | setColorImageDyn | setZImageDyn | setTextureImageDyn =>
    cases h
    exact sameEffect_singleton (hazardRow_pipe (by rw [encodeCmd_op]; simp [Instr.opcode]))
      (hazardRow_pipe (by rw [encodeCmd_op]; simp [Instr.opcode]))
  | modifyOtherModes =>
    cases h
    refine sameEffect_singleton (hazardRow_pipe (by rw [encodeCmd_op]; simp [Instr.opcode])) (hazardRow_pipe ?_)
    split <;> (rw [encodeCmd_op]; simp [Instr.opcode])
  | _ => cases h <;> exact fun m => ⟨id, rfl⟩

/-- Selectors 1 to 3 are the built-in overlay's (41_overlay_registry.md R193). -/
theorem builtin_of_selOf {s : State} (inv : StateInv s) (initialized : s.lc ≠ .uninit) {op : Byte} {id : Fin 16}
    {n : Nat} (extent : overlayExtent s op = .ok (id, n)) (external : selOf op ≠ 0) (builtin : selOf op < 4) :
    id = 1 := by
  obtain ⟨-, -, -, -, -, sel1, sel2, sel3⟩ := inv.builtins initialized
  obtain ⟨isBound, -⟩ := overlayExtent_ok extent
  have cases : selOf op = 1 ∨ selOf op = 2 ∨ selOf op = 3 := by omega
  simp only [Fin.getElem_fin] at isBound
  obtain sel | sel | sel := cases <;> simp only [sel] at isBound
  · exact Option.some.inj (isBound.symm.trans sel1)
  · exact Option.some.inj (isBound.symm.trans sel2)
  · exact Option.some.inj (isBound.symm.trans sel3)

/-- What a command forwards takes its place (R272). -/
theorem trackerInv_forwarded {s t : State} {q out : List Cmd} {c : Cmd} (h : TrackerInv s (c :: q))
    (same : SameTracker s t) (pq : t.pq = s.pq) (rzQ : t.rzQ = s.rzQ ++ out) (effect : SameEffect out c) :
    TrackerInv t q := by
  refine trackerInv_of_same h same (fun d toCome => h.builtin d (pq ▸ List.mem_cons_of_mem c toCome)) ?_
  have before : toCome s (c :: q) = s.rzQ ++ c :: (q ++ emitsOf s.pq) := by simp [toCome]
  have after : toCome t q = s.rzQ ++ out ++ (q ++ emitsOf s.pq) := by simp [toCome, rzQ, pq]
  rw [after]
  exact (before ▸ synced_of_trackerInv h).replace effect

theorem inv_consumer {s t : State} {bs rest : List Byte} {i : Instr} {q : List Cmd} (inv : StateInv s)
    (ring : RingInv s q) (h : TrackerInv s q) (run : s.cstate = .run) (fetched : fetch s = .ok bs)
    (decoded : decode (decodeSize s) bs = .ok (i, rest)) (executed : exec i s = .next t) :
    ∃ q', RingInv t q' ∧ TrackerInv t q' := by
  have frame := exec_frame executed
  have same : SameTracker s t := by constructor <;> rw [frame]
  have pq : t.pq = s.pq := by rw [frame]
  obtain ⟨q', ringT, consumes⟩ := ringInv_consumer inv ring run fetched decoded executed
  cases consumes with
  | nothing rzQ => exact ⟨q, ringT, trackerInv_moved h same rzQ (by rw [pq])⟩
  | @head c q' out whole rzQ =>
    subst whole
    have emittable := ring.commands c List.mem_cons_self
    have command : encodeCmd i = c := encodeCmd_of_decode emittable.size decoded
    have opcode : c.op = i.opcode := command ▸ encodeCmd_op i
    have builtin : selOf c.op < 4 := h.builtin c List.mem_cons_self
    cases exec_outcome executed with
    | signalled _ row | paused _ row => exact absurd (opcode.trans (by rw [row]; rfl)) emittable.terminator
    | jumped _ row => exact absurd (opcode.trans (by rw [row]; rfl)) emittable.jump
    | raised code info => exact ⟨c :: q', ringInv_raise ring _ code info, trackerInv_raise h _ code info⟩
    | stalled => exact ⟨c :: q', ring, h⟩
    | skipped _ row =>
      have noop : c.op = 0x01#8 := opcode.trans (by rw [row]; rfl)
      have nothing : out = [] := List.self_eq_append_right.mp rzQ
      subst nothing
      exact ⟨q', ringT, trackerInv_forwarded h same pq rzQ (sameEffect_nil (hazardRow_none (by simp [noop])))⟩
    | committed id n out' u external extent handled fits =>
      have id1 : id = 1 := by
        have initialized : s.lc ≠ .uninit := by rw [started_of_run (ringInv_iff.mp ring).1 run]; decide
        exact builtin_of_selOf inv initialized extent external (opcode ▸ builtin)
      obtain ⟨-, answer⟩ | ⟨client, -⟩ := handlerOf_ok handled
      · have forwards : out' = out := by
          refine List.append_cancel_left (as := s.rzQ) (Eq.trans ?_ rzQ)
          rw [(handlerOf_writes handled).1]
          rfl
        subst forwards
        exact ⟨q', ringT, trackerInv_forwarded h same pq rzQ (command ▸ builtinAnswer_sameEffect answer)⟩
      · exact absurd id1 client

/-! ### PRODUCER's issue steps -/

/-- A list of commands added to what is to come. -/
theorem trackerInv_queue {s t : State} {q : List Cmd} (h : TrackerInv s q) (empty : s.pq = [])
    (cfg : t.autosyncCfg = s.autosyncCfg) (hostOps : t.hostOps = s.hostOps) (rzQ : t.rzQ = s.rzQ)
    (rzInuse : t.rzInuse = s.rzInuse) (builtin : ∀ c ∈ emitsOf t.pq, selOf c.op < 4)
    (synced : Synced s.rzInuse s.autosync (s.rzQ ++ q) →
      Synced s.rzInuse t.autosync (s.rzQ ++ q ++ emitsOf t.pq)) : TrackerInv t q := by
  have before : toCome s q = s.rzQ ++ q := by simp [toCome, empty, emitsOf]
  obtain ⟨free, covered⟩ := synced (before ▸ synced_of_trackerInv h)
  exact
    { enabled := cfg.trans h.enabled
      host := hostOps ▸ h.host
      builtin := fun c inList => (List.mem_append.mp inList).elim
        (fun inRing => h.builtin c (List.mem_append_left _ inRing)) (builtin c)
      free := rzQ ▸ rzInuse ▸ free
      covered := rzQ ▸ rzInuse ▸ covered }

/-- A class's sync is a built-in command. -/
theorem autoSync_builtin {enabled : Bool} {sync : Cmd} {mask hit : HazardMask} {qa : List MicroStep × HazardMask}
    (builtin : selOf sync.op < 4) (h : ∀ c ∈ emitsOf qa.1, selOf c.op < 4) :
    ∀ c ∈ emitsOf (autoSync enabled sync mask hit qa).1, selOf c.op < 4 := by
  unfold autoSync
  split
  · intro c inList
    rw [emitsOf_append] at inList
    exact (List.mem_append.mp inList).elim (h c) fun isSync => List.mem_singleton.mp isSync ▸ builtin
  · exact h

theorem expandWrite_builtin (cfg : BitVec 3) (a chg use : HazardMask) {c : Cmd} (builtin : selOf c.op < 4) :
    ∀ d ∈ emitsOf (expandWrite cfg a c chg use).1, selOf d.op < 4 := by
  intro d inList
  have nothing : ∀ d ∈ emitsOf [], selOf d.op < 4 := fun _ inNil => absurd inNil List.not_mem_nil
  rw [expandWrite, emitsOf_append] at inList
  exact (List.mem_append.mp inList).elim
    (autoSync_builtin (by decide) (autoSync_builtin (by decide) (autoSync_builtin (by decide) nothing)) d)
    fun isCommand => List.mem_singleton.mp isCommand ▸ builtin

/-- A write with masks at least those of the table (R222). -/
theorem trackerInv_write {s t : State} {q : List Cmd} {shape : Shape} {op : Byte} {a24 : BitVec 24}
    {args : List Word} {use change : HazardMask} (h : TrackerInv s q) (empty : s.pq = [])
    (inCharge : tracked (.write shape op a24 args use change))
    (written : doWrite s shape op a24 args use change = .ok t) : TrackerInv t q := by
  obtain ⟨-, -, rfl⟩ := doWrite_ok written
  obtain ⟨builtin, masks⟩ := inCharge
  have opcode : selOf (⟨op ++ a24, args⟩ : Cmd).op < 4 := by rwa [cmd_op]
  have atLeast : Covers (writeMasks shape ⟨op ++ a24, args⟩ use change).2 (hzUse ⟨op ++ a24, args⟩)
      ∧ Covers (writeMasks shape ⟨op ++ a24, args⟩ use change).1 (hzChange ⟨op ++ a24, args⟩) := by
    rw [writeMasks_eq]
    split
    · exact ⟨BitVec.and_not_self _, BitVec.and_not_self _⟩
    · next notAuto => exact masks.resolve_left notAuto
  refine trackerInv_queue h empty rfl rfl rfl rfl (expandWrite_builtin _ _ _ _ opcode) fun synced => ?_
  dsimp only [expanded]
  rw [h.enabled]
  exact expandWrite_synced atLeast.1 atLeast.2 synced

/-- An explicit sync (R230). -/
theorem trackerInv_sync {s t : State} {q : List Cmd} {sync : Cmd} {mask : HazardMask} (h : TrackerInv s q)
    (empty : s.pq = []) (builtin : selOf sync.op < 4) (row : HazardRow sync 0 0 mask)
    (queued : doSync s sync mask = .ok t) : TrackerInv t q := by
  cases queued
  exact trackerInv_queue h empty rfl rfl rfl rfl (fun _ isSync => List.mem_singleton.mp isSync ▸ builtin)
    fun synced => synced.sync row

/-- `fence` and `wait` clear AUTOSYNC, and their SYNC_FULL clears every class (R232, R233). -/
theorem trackerInv_syncFull {s t : State} {q : List Cmd} (inv : StateInv s) (h : TrackerInv s q) (empty : s.pq = [])
    (same : SameTracker { s with autosync := 0 } t) (rzQ : t.rzQ = s.rzQ) (pq : emitsOf t.pq = [syncFullCmd]) :
    TrackerInv t q := by
  have row : HazardRow syncFullCmd 0 0 allMask := by decide
  obtain ⟨use, change, clear⟩ := row
  have autosync : t.autosync = 0 := same.autosync
  refine trackerInv_queue h empty same.autosyncCfg same.hostOps rzQ same.rzInuse ?_ fun synced => ?_
  · rw [pq]
    exact fun _ isSync => List.mem_singleton.mp isSync ▸ by decide
  · rw [pq, autosync]
    refine synced.snoc (by rw [change]; exact BitVec.zero_and) ?_
    rw [use, clear, hazardUpdate, inv.autosync]
    rfl

/-- An operation that writes nothing the tracker reads and queues no command. -/
theorem trackerInv_silent {s t : State} {q : List Cmd} (h : TrackerInv s q) (empty : s.pq = [])
    (same : SameTracker s t) (rzQ : t.rzQ = s.rzQ) (silent : emitsOf t.pq = []) : TrackerInv t q :=
  trackerInv_moved h same rzQ (by rw [silent, empty]; rfl)

theorem doInit_ok {s t : State} (h : doInit s = .ok t) : ∃ mem, t = initState s mem := by
  unfold doInit at h
  split at h
  · cases h
  · split at h
    · cases h
    · exact ⟨_, (Except.ok.inj h).symm⟩

theorem doRegister_ok {s t : State} {d : DescriptorArg} {id : Option Word} (h : doRegister s d id = .ok t) :
    ∃ i, t = claim s i d := by
  unfold doRegister at h
  split at h
  · cases h
  · dsimp only at h
    split at h
    · split at h
      · cases h
      · exact ⟨_, (Except.ok.inj h).symm⟩
    · split_ifs at h <;> cases h
      exact ⟨_, rfl⟩

theorem doBind_ok {s t : State} {id sel : Word} (h : doBind s id sel = .ok t) :
    ∃ selMap, t = { s with selMap := selMap } := by
  unfold doBind at h
  split_ifs at h <;> cases h
  exact ⟨_, rfl⟩

theorem doReserve_ok {s t : State} {n : Word} (h : doReserve s n = .ok t) :
    ∃ k stage, t = { s with resN := k, stage := stage } := by
  unfold doReserve at h
  split_ifs at h <;> cases h
  exact ⟨_, _, rfl⟩

theorem doStore_ok {s t : State} {k w : Word} (h : doStore s k w = .ok t) :
    ∃ stage, t = { s with stage := stage } := by
  unfold doStore at h
  split_ifs at h <;> cases h
  exact ⟨_, rfl⟩

theorem doConfig_ok {s t : State} {enable disable : Word} (h : doConfig s enable disable = .ok t) :
    t = { s with
      result := some (s.autosyncCfg.setWidth 32)
      autosyncCfg := (s.autosyncCfg ||| lowBits 3 enable) &&& ~~~lowBits 3 disable } := by
  unfold doConfig at h
  split_ifs at h <;> cases h
  rfl

/-- A `config` that disables nothing leaves every class enabled (R236). -/
theorem enables_all (enable : BitVec 3) : ((0b111 : BitVec 3) ||| enable) &&& ~~~lowBits 3 0 = 0b111 := by
  revert enable
  decide

/-- Every tracked operation keeps the invariant; `init`, the one that clears what the rasterizer has still to receive,
runs before anything is in the ring. -/
theorem trackerInv_issue {s t : State} {q : List Cmd} {op : PortOp} (inv : StateInv s) (ring : RingInv s q)
    (h : TrackerInv s q) (empty : s.pq = []) (inCharge : tracked op) (completed : issue s op = .ok t) :
    TrackerInv t q := by
  have performed := perform_of_issue completed
  cases op with
  | init =>
    have uninit : s.lc ≠ .started := fun started => by
      rw [issue_refused (by rw [started]; rfl)] at completed
      cases completed
    obtain ⟨rfl, -⟩ := ring.notStarted uninit
    obtain ⟨mem, rfl⟩ := doInit_ok performed
    exact trackerInv_cleared h rfl rfl rfl rfl rfl
  | close | start =>
    cases performed
    exact trackerInv_silent h empty (by constructor <;> rfl) rfl (by simp [emitsOf, empty])
  | register =>
    obtain ⟨i, rfl⟩ := doRegister_ok performed
    exact trackerInv_silent h empty (by constructor <;> rfl) rfl (congrArg emitsOf empty)
  | bind =>
    obtain ⟨selMap, rfl⟩ := doBind_ok performed
    exact trackerInv_silent h empty (by constructor <;> rfl) rfl (congrArg emitsOf empty)
  | reserve =>
    obtain ⟨k, stage, rfl⟩ := doReserve_ok performed
    exact trackerInv_silent h empty (by constructor <;> rfl) rfl (congrArg emitsOf empty)
  | store =>
    obtain ⟨stage, rfl⟩ := doStore_ok performed
    exact trackerInv_silent h empty (by constructor <;> rfl) rfl (congrArg emitsOf empty)
  | publish => exact inCharge.elim
  | syncPipe | syncTile | syncLoad => exact trackerInv_sync h empty (by decide) (by decide) performed
  | fence | wait =>
    cases performed
    exact trackerInv_syncFull inv h empty (by constructor <;> rfl) rfl rfl
  | config enable disable =>
    obtain rfl := doConfig_ok performed
    obtain rfl : disable = 0 := inCharge
    exact { h with
      enabled := by
        show (s.autosyncCfg ||| lowBits 3 enable) &&& ~~~lowBits 3 0 = 0b111
        rw [h.enabled]
        exact enables_all _ }
  | write => exact trackerInv_write h empty inCharge performed
  | setImageDyn kind => exact trackerInv_write h empty ⟨by cases kind <;> decide, .inl rfl⟩ performed
  | _ => exact trackerInv_write h empty ⟨by decide, .inl rfl⟩ performed

/-! ### PRODUCER -/

theorem trackerInv_producer {s t : State} {q : List Cmd} (inv : StateInv s) (ring : RingInv s q) (h : TrackerInv s q)
    (completed : producerStep s = .ok t) : TrackerInv t (q ++ emitted s.pq) := by
  obtain ⟨contents, shape⟩ := ringInv_iff.mp ring
  cases producer_outcome completed with
  | rests noEmit =>
    rw [noEmit, List.append_nil]
    exact h
  | @emits c clr use rest t head emit =>
    obtain ⟨-, -, after⟩ := emitCommand_ok emit
    have emits : emitsOf t.pq = emitsOf rest := by
      rw [after]
      dsimp only
      split <;> rfl
    refine trackerInv_moved h (by constructor <;> rw [after]) (by rw [after]) ?_
    rw [emits, head, List.append_assoc]
    rfl
  | @switches rest t head guard switch =>
    obtain ⟨-, -, -, rfl⟩ := switchBuffer_ok switch
    exact trackerInv_moved h (by constructor <;> rfl) rfl (by rw [head]; simp [emitted, emitsOf])
  | @passes m rest head guard =>
    refine trackerInv_moved h (by constructor <;> rfl) rfl ?_
    rw [head]
    obtain ⟨k, rfl⟩ | ⟨rfl, -⟩ := guard <;> simp [emitted, emitsOf]
  | @commits rest head =>
    have nothing : q ++ emitted s.pq = [] := by
      rw [head, empty_of_closeCommit inv contents shape head]
      rfl
    rw [nothing]
    exact trackerInv_cleared h rfl rfl rfl rfl rfl
  | @issues op ops t empty host _ =>
    have issued : issue { s with hostOps := ops } op = .ok t := by simpa [producerStep, empty, host] using completed
    have inCharge : tracked op := h.host op (host ▸ List.mem_cons_self)
    have noEmit : emitted s.pq = [] := by rw [empty]; rfl
    have taken : RingInv { s with hostOps := ops } q :=
      ringInv_of_same (s := s) (by constructor <;> rfl) (by constructor <;> rfl) id ring
    have tracker : TrackerInv { s with hostOps := ops } q :=
      { h with host := fun op later => h.host op (host ▸ List.mem_cons_of_mem _ later) }
    rw [noEmit, List.append_nil]
    exact trackerInv_issue (s := { s with hostOps := ops }) { inv with } taken tracker empty inCharge issued

/-! ### The four agents -/

theorem inv_consumerStep {s t : State} {q : List Cmd} (inv : StateInv s) (ring : RingInv s q) (h : TrackerInv s q)
    (next : consumerStep s = .next t) : ∃ q', RingInv t q' ∧ TrackerInv t q' := by
  have unread {e : Halt} (failed : settle .consumer s (.error e) = .next t) : RingInv t q ∧ TrackerInv t q := by
    obtain ok | ⟨code, info, -, rfl⟩ := settle_next failed
    · cases ok
    · exact ⟨ringInv_raise ring .consumer code info, trackerInv_raise h .consumer code info⟩
  unfold consumerStep at next
  split at next
  · cases next
    exact ⟨q, ring, h⟩
  · next run =>
    split at next
    · exact ⟨q, unread next⟩
    · next bs fetched =>
      split at next
      · exact ⟨q, unread next⟩
      · next i rest decoded => exact inv_consumer inv ring h run fetched decoded next

/-- The ring and the tracker invariant after every step (R222). -/
theorem trackerInv_step {s t : State} {q : List Cmd} (inv : StateInv s) (ring : RingInv s q) (h : TrackerInv s q)
    (running : s.fault = none) (next : step s = .next t) : ∃ q', RingInv t q' ∧ TrackerInv t q' := by
  have turnInv := stateInv_takeTurn inv
  have turnRing := ringInv_takeTurn ring
  have turnTracker := trackerInv_takeTurn h
  cases turn : nextTurn s with
  | powerOn =>
    rw [step_powerOn turn] at next
    cases next
    exact ⟨[], ringInv_uninit rfl rfl rfl rfl, trackerInv_cleared turnTracker rfl rfl rfl rfl rfl⟩
  | agent a =>
    cases a with
    | producer =>
      rw [step_producer ⟨turn, running⟩] at next
      refine ⟨_, ringInv_producerStep turnInv turnRing next, ?_⟩
      obtain ok | ⟨code, info, raised, rfl⟩ := settle_next next
      · exact trackerInv_producer turnInv turnRing turnTracker ok
      · rw [emitted_eq_nil_of_raise raised, List.append_nil]
        exact trackerInv_raise turnTracker .producer code info
    | consumer =>
      rw [step_consumer ⟨turn, running⟩] at next
      exact inv_consumerStep turnInv turnRing turnTracker next
    | rasterizer =>
      rw [step_rasterizer ⟨turn, running⟩] at next
      refine ⟨q, ringInv_rasterizerStep turnRing next, ?_⟩
      obtain ok | ⟨code, info, -, rfl⟩ := settle_next next
      · exact trackerInv_rasterizer turnTracker (rasterizer_outcome ok)
      · exact trackerInv_raise turnTracker .rasterizer code info
    | fenceIrq =>
      rw [step_fenceIrq ⟨turn, running⟩] at next
      refine ⟨q, ringInv_fenceStep turnRing next, ?_⟩
      obtain ok | ⟨code, info, -, rfl⟩ := settle_next next
      · exact trackerInv_fenceIrq turnTracker (fence_outcome ok)
      · exact trackerInv_raise turnTracker .fenceIrq code info

/-- Settles O57: the head of RZ_Q changes nothing in use, so the observer raises nothing, and each agent's step keeps
the two invariants. -/
theorem trackerNeverUnderSyncs : Obligations.TrackerNeverUnderSyncs := by
  intro s t q inv ring tracker running next
  exact ⟨step_noHazard running next fun c rest head => head_free tracker head,
    trackerInv_step inv ring tracker running next⟩

end Sys2Proof.Proofs
end

section
/-! The internal commands (43_consumer_dispatch.md R262 to R264): each is one equation of `exec`. -/
namespace Sys2Proof.Proofs

open Sys2Proof Sys2Proof.Machine

theorem exec_terminator (s : State) (ignored : BitVec 24) : exec (.terminator ignored) s
    = .next (if s.sig = true then { s with sig := false } else { s with cstate := .idle }) := rfl

theorem exec_noop (s : State) (ignored : BitVec 24) : exec (.noop ignored) s = .next { s with rpos := s.rpos + 1 } :=
  rfl

theorem exec_jump_base {s : State} {target : BitVec 24} (base : target = bufBase s.params s.cbuf.other) :
    exec (.jump target) s = .next { s with cbuf := s.cbuf.other, rpos := 0 } := by
  simp only [exec, execJump, base, if_true, settle_ok]

theorem exec_jump_elsewhere {s : State} {target : BitVec 24} (elsewhere : target ≠ bufBase s.params s.cbuf.other) :
    exec (.jump target) s
      = .next (raise s .consumer .badJump (consumerInfo s (encodeCmd (.jump target)).w0)) := by
  simp only [exec, execJump, elsewhere, if_false, settle_raise]

/-- Settles O7: the two branches of R262. -/
theorem terminatorConsumesSignalOrIdles : Obligations.TerminatorConsumesSignalOrIdles := by
  intro s ignored
  rw [exec_terminator]
  exact ⟨fun signal => by rw [if_pos signal], fun noSignal => by rw [if_neg (by simp [noSignal])]⟩

/-- Settles O8. -/
theorem noopAdvancesByOneWord : Obligations.NoopAdvancesByOneWord := exec_noop

/-- Settles O9: the two branches of R264; the fault's first info word is the JUMP itself. -/
theorem jumpMovesToOtherBufferOrFaults : Obligations.JumpMovesToOtherBufferOrFaults := by
  intro s target running
  refine ⟨exec_jump_base, fun elsewhere => ?_⟩
  rw [exec_jump_elsewhere elsewhere, raise_of_none running]
  rfl

end Sys2Proof.Proofs
end

section
/-! Which agent raises which fault in a safe run (60_exceptions.md R402): the checks of the port operations are
PRODUCER's, the answers of the handlers CONSUMER's, the hazard observer RASTERIZER's. The checks that no agent's list
names are the defensive ones. -/
namespace Sys2Proof.Proofs

open Sys2Proof Sys2Proof.Machine

/-- The faults that an agent raises in a safe run (R402, the column `raised by`). -/
def agentCodes : Agent → List FaultCode
  | .producer =>
    [.notInit, .alreadyInit, .notStarted, .afterStart, .ovlTableFull, .ovlDuplicate, .ovlIdRange, .selRange, .selBound,
      .ovlNotRegistered, .badDescriptor, .oversize, .reservationState, .publishIncomplete, .reservedOpcode,
      .sizeMismatch, .badMask, .misaligned, .badEnum, .unboundSelector, .unsupportedFeature]
  | .consumer => [.flipInCopy, .badForward, .handlerFault]
  | .rasterizer => [.rzHazard]
  | .fenceIrq => []

/-- A computation of agent `a` that raises no other fault than those of its list. -/
def raisesOwn {α : Type} (a : Agent) : Except Halt α → Bool
  | .error (.raise code _) => decide (code ∈ agentCodes a)
  | _ => true

/-- A fault passed on is the fault of the check that raised it. -/
theorem raisesOwn_error {α β : Type} {a : Agent} {r : Except Halt α} {e : Halt} (h : raisesOwn a r = true)
    (failed : r = .error e) : raisesOwn a (.error e : Except Halt β) = true := by
  subst failed
  cases e <;> exact h

theorem raisesOwn_of_ne_raise {α : Type} {a : Agent} {r : Except Halt α}
    (h : ∀ code info, r ≠ .error (.raise code info)) : raisesOwn a r = true := by
  unfold raisesOwn
  split
  · exact absurd rfl (h _ _)
  · rfl

/-! ### PRODUCER -/

theorem checkOpcode_raisesOwn (s : State) (c : Cmd) : raisesOwn .producer (checkOpcode s c) = true := by
  unfold checkOpcode
  split
  · rfl
  · split_ifs <;> rfl

theorem validate_raisesOwn (p : Params) (c : Cmd) : raisesOwn .producer (validate p c) = true := by
  unfold validate
  split_ifs <;> rfl

theorem doWrite_raisesOwn (s : State) (shape : Shape) (op : Byte) (a24 : BitVec 24) (args : List Word)
    (use change : HazardMask) : raisesOwn .producer (doWrite s shape op a24 args use change) = true := by
  unfold doWrite
  dsimp only
  split
  · next failed => exact raisesOwn_error (checkOpcode_raisesOwn _ _) failed
  · split
    · rfl
    · split
      · next failed => exact raisesOwn_error (validate_raisesOwn _ _) failed
      · rfl

theorem doRegister_raisesOwn (s : State) (d : DescriptorArg) (id : Option Word) :
    raisesOwn .producer (doRegister s d id) = true := by
  unfold doRegister
  split
  · rfl
  · dsimp only
    split
    · split <;> rfl
    · split_ifs <;> rfl

theorem doBind_raisesOwn (s : State) (id sel : Word) : raisesOwn .producer (doBind s id sel) = true := by
  unfold doBind
  split_ifs <;> rfl

theorem doPublish_raisesOwn (s : State) : raisesOwn .producer (doPublish s) = true := by
  unfold doPublish
  split
  · rfl
  · split
    · rfl
    · split
      · next failed => exact raisesOwn_error (checkOpcode_raisesOwn _ _) failed
      · rfl

theorem perform_raisesOwn (s : State) (op : PortOp) : raisesOwn .producer (perform s op) = true := by
  cases op with
  | init =>
    refine raisesOwn_of_ne_raise fun code info failed => ?_
    obtain ⟨⟨f, access⟩, -⟩ := doInit_error failed
    cases access
  | close | start | syncPipe | syncTile | syncLoad | fence | wait => rfl
  | register => exact doRegister_raisesOwn _ _ _
  | bind => exact doBind_raisesOwn _ _ _
  | reserve =>
    unfold perform doReserve
    dsimp only
    split <;> rfl
  | store =>
    unfold perform doStore
    dsimp only
    split <;> rfl
  | publish => exact doPublish_raisesOwn _
  | config =>
    unfold perform doConfig
    dsimp only
    split <;> rfl
  | _ => exact doWrite_raisesOwn _ _ _ _ _ _ _

theorem issue_raisesOwn (s : State) (op : PortOp) : raisesOwn .producer (issue s op) = true := by
  cases admitted : admits s.lc op with
  | false =>
    rw [issue_refused admitted]
    unfold refusal
    split_ifs <;> rfl
  | true =>
    by_cases inside : s.resN ≠ 0 ∧ regionOperation op = false
    · rw [issue_reserved admitted inside.1 inside.2]
      rfl
    · rw [issue_admitted admitted inside]
      exact perform_raisesOwn s op

/-- A micro-step completes, stalls, or makes a ring access; only the checks of an issue step raise a fault. -/
theorem producerStep_raisesOwn (s : State) : raisesOwn .producer (producerStep s) = true := by
  unfold producerStep
  split
  · next m rest head =>
    cases m with
    | emit c clr use => exact raisesOwn_of_ne_raise fun _ _ => emitCommand_ne_raise
    | switch =>
      unfold microStep switchBuffer
      dsimp only
      split_ifs
      · split
        · rfl
        · split <;> rfl
      · rfl
    | waitf | drain =>
      unfold microStep
      dsimp only
      split <;> rfl
    | closeCommit => rfl
  · split
    · rfl
    · exact issue_raisesOwn _ _

/-! ### CONSUMER, past the decode checks (43_consumer_dispatch.md R275, R276) -/

theorem handlerOf_raisesOwn (s : State) (id : Fin 16) (c : Cmd) (builtin : Option (List Cmd × State)) :
    raisesOwn .consumer (handlerOf s id c builtin) = true := by
  unfold handlerOf
  split
  · split <;> rfl
  · unfold clientHandler
    split
    · split
      · rfl
      · split
        · rfl
        · split <;> rfl
    · rfl

theorem commitCommand_raisesOwn (s : State) (id : Fin 16) (n : Nat) (out : List Cmd) (t : State) :
    raisesOwn .consumer (commitCommand s id n out t) = true := by
  unfold commitCommand
  split
  · rfl
  · split <;> rfl

theorem dispatch_raisesOwn {s : State} {c : Cmd} {id : Fin 16} {n : Nat} (builtin : Option (List Cmd × State))
    (extent : overlayExtent s c.op = .ok (id, n)) : raisesOwn .consumer (dispatch s c builtin) = true := by
  unfold dispatch
  rw [extent]
  dsimp only
  split
  · next failed => exact raisesOwn_error (handlerOf_raisesOwn _ _ _ _) failed
  · exact commitCommand_raisesOwn _ _ _ _ _

/-! ### The fault record after a step -/

/-- FAULT, if it is set, holds a fault that its agent raises in a safe run. -/
def OwnRecord (t : State) : Prop := ∀ r, t.fault = some r → r.code ∈ agentCodes r.agent

theorem ownRecord_of_none {t : State} (h : t.fault = none) : OwnRecord t := by
  intro r recorded
  rw [h] at recorded
  cases recorded

theorem ownRecord_settle {a : Agent} {s t : State} {r : Except Halt State} (running : s.fault = none)
    (next : settle a s r = .next t) (own : raisesOwn a r = true) (kept : ∀ u, r = .ok u → u.fault = s.fault) :
    OwnRecord t := by
  obtain ok | ⟨code, info, raised, rfl⟩ := settle_next next
  · exact ownRecord_of_none ((kept t ok).trans running)
  · intro r recorded
    rw [raise_of_none running] at recorded
    cases recorded
    rw [raised] at own
    exact of_decide_eq_true own

end Sys2Proof.Proofs
end

section
/-! The decode checks never fail in a safe run (43_consumer_dispatch.md R264, R266 to R268, 60_exceptions.md R402): what
the ring invariant puts at the consumer's position is a well-formed command that ends before the guard word, or the JUMP
to the other buffer, so the consumer's step is the meaning of that command. -/
namespace Sys2Proof.Proofs

open Sys2Proof Sys2Proof.Machine

/-! ### Commands of their opcode's size -/

theorem withNone_some {args : List Word} (i : Instr) (length : 1 = args.length + 1) :
    ∃ j, withNone args i = some j := by
  match args, length with
  | [], _ => exact ⟨i, rfl⟩

theorem withOne_some {args : List Word} (f : Word → Instr) (length : 2 = args.length + 1) :
    ∃ j, withOne args f = some j := by
  match args, length with
  | [w1], _ => exact ⟨f w1, rfl⟩

theorem withTwo_some {args : List Word} (f : Word → Word → Instr) (length : 3 = args.length + 1) :
    ∃ j, withTwo args f = some j := by
  match args, length with
  | [w1, w2], _ => exact ⟨f w1 w2, rfl⟩

theorem withThree_some {args : List Word} (f : Word → Word → Word → Instr) (length : 4 = args.length + 1) :
    ∃ j, withThree args f = some j := by
  match args, length with
  | [w1, w2, w3], _ => exact ⟨f w1 w2 w3, rfl⟩

/-- The opcode map has a row for every built-in opcode of a size, on as many words (30_encoding.md R113 to R117). -/
theorem instrOf_builtin {op : Byte} {args : List Word} (size : builtinSize op = args.length + 1) (a24 : BitVec 24) :
    ∃ i, instrOf op a24 args = some i := by
  unfold builtinSize at size
  split at size
  case h_1 | h_2 | h_3 =>
    simp only [instrOf, ‹op.toNat = _›]
    exact withNone_some _ size
  case h_8 =>
    simp only [instrOf, ‹op.toNat = _›]
    exact withTwo_some _ size
  case h_9 | h_10 =>
    simp only [instrOf, ‹op.toNat = _›]
    exact withThree_some _ size
  case h_36 => cases size
  all_goals
    simp only [instrOf, ‹op.toNat = _›]
    exact withOne_some _ size

/-- The selector is the high half of the opcode (R112). -/
theorem selOf_val (op : Byte) : (selOf op).val = op.toNat / 16 := by
  show (field 4 4 op).toNat = op.toNat / 16
  rw [field, BitVec.extractLsb'_toNat, Nat.shiftRight_eq_div_pow]
  omega

/-- Every opcode of selectors 4 to 15 is a client command on any words (R123). -/
theorem instrOf_clientOpcode {op : Byte} (client : 4 ≤ selOf op) (a24 : BitVec 24) (args : List Word) :
    ∃ i, instrOf op a24 args = some i := by
  have lower : 4 ≤ op.toNat / 16 := selOf_val op ▸ client
  have upper : op.toNat / 16 < 16 := selOf_val op ▸ (selOf op).isLt
  rw [instrOf_client (by omega)]
  generalize op.toNat / 16 = sel at lower upper
  unfold clientInstr
  interval_cases sel <;> exact ⟨_, rfl⟩

/-- So a command of its opcode's size is the encoding of an instruction. -/
theorem exists_encodeCmd {s : State} {c : Cmd} (size : opSize s c.op = some c.size) : ∃ i, encodeCmd i = c := by
  obtain ⟨i, row⟩ : ∃ i, instrOf c.op c.a24 c.rest = some i := by
    by_cases builtin : selOf c.op < 4
    · rw [opSize_builtin builtin] at size
      exact instrOf_builtin (Option.some.inj size) c.a24
    · exact instrOf_clientOpcode (Fin.not_lt.mp builtin) c.a24 c.rest
  exact ⟨i, encodeCmd_of_instrOf row⟩

/-- Selectors 1 to 3 are bound to the built-in overlay (41_overlay_registry.md R193). -/
theorem bound_of_builtin {s : State} {sel : Fin 16} (inv : StateInv s) (initialized : s.lc ≠ .uninit)
    (external : sel ≠ 0) (builtin : ¬4 ≤ sel) : s.selMap[sel] = some 1 := by
  obtain ⟨-, -, -, -, -, sel1, sel2, sel3⟩ := inv.builtins initialized
  have cases : sel = 1 ∨ sel = 2 ∨ sel = 3 := by omega
  obtain rfl | rfl | rfl := cases
  · exact sel1
  · exact sel2
  · exact sel3

/-- After `init` every selector with a size is bound (30_encoding.md R112). -/
theorem bound_of_opSize {s : State} {op : Byte} {n : Nat} (inv : StateInv s) (initialized : s.lc ≠ .uninit)
    (external : selOf op ≠ 0) (size : opSize s op = some n) : ∃ id, s.selMap[selOf op] = some id := by
  by_cases client : 4 ≤ selOf op
  · apply Option.ne_none_iff_exists'.mp
    intro unbound
    rw [opSize_eq_none.mpr ⟨client, unbound⟩] at size
    cases size
  · exact ⟨1, bound_of_builtin inv initialized external client⟩

theorem decodeSize_internal {s : State} {op : Byte} (internal : selOf op = 0) :
    decodeSize s op = some (builtinSize op) := if_pos internal

theorem decodeSize_of_opSize {s : State} {op : Byte} {n : Nat} (inv : StateInv s) (initialized : s.lc ≠ .uninit)
    (size : opSize s op = some n) : decodeSize s op = some n := by
  unfold decodeSize
  split
  · next internal => rw [← size, opSize_builtin (by rw [internal]; decide)]
  · next external =>
    obtain ⟨id, isBound⟩ := bound_of_opSize inv initialized external size
    rw [isBound]
    exact size

/-! ### The consumer's position (40_ring_buffer.md R170, 10_state.md R40) -/

theorem le_cap_of_ringReads {s : State} {b : RingBuf} {i n : Nat} {ws : List Word}
    (h : ringReads s b i (n + 1) = .ok ws) : i ≤ s.params.cap := by
  cases ws with
  | nil => exact absurd (ringReads_length h) (by simp)
  | cons w ws => exact (ringRead_ok (ringReads_cons.mp h).1).1

/-- The consumer's position is never past the guard word. -/
theorem rpos_le_cap {s : State} {q : List Cmd} (h : RingContents s q) (initialized : s.lc ≠ .uninit)
    (cursor : s.cursor ≤ s.params.cap) : s.rpos ≤ s.params.cap := by
  by_cases buffer : s.cbuf = s.active
  · have position := (h.here initialized buffer).1
    omega
  · obtain ⟨_, _, -, words, -⟩ := h.behind initialized buffer
    exact le_cap_of_ringReads words

theorem op_jumpWord (p : Params) (b : RingBuf) : (⟨jumpWord p b, []⟩ : Cmd).op = 0x02#8 := encodeCmd_op (.jump _)

/-- No JUMP stands before the cursor of the active buffer (R170, 3). -/
theorem ne_jumpWord_of_here {s : State} {q : List Cmd} (h : RingContents s q) (initialized : s.lc ≠ .uninit)
    (buffer : s.cbuf = s.active) (b : RingBuf) : ringReads s s.cbuf s.rpos 1 ≠ .ok [jumpWord s.params b] := by
  intro words
  have word := (ringReads_cons.mp words).1
  have jump := op_jumpWord s.params b
  obtain ⟨position, flat⟩ := h.here initialized buffer
  cases q with
  | nil =>
    have terminator := h.terminator initialized
    rw [← position, ← buffer] at terminator
    rw [← Except.ok.inj (terminator.symm.trans word)] at jump
    exact absurd jump (by decide)
  | cons c q =>
    have first : ringRead s s.active s.rpos = .ok c.w0 := (ringReads_cons.mp flat).1
    rw [← buffer] at first
    rw [← Except.ok.inj (first.symm.trans word)] at jump
    exact (h.commands c List.mem_cons_self).jump jump

/-! ### The command at the position -/

/-- A command at the consumer's position that no decode check stops, a JUMP leading to the other buffer (R260, R264). -/
structure Executable (s : State) (i : Instr) : Prop where
  wellFormed : i.wellFormed (decodeSize s) s.params.maxCmd = true
  words : ringReads s s.cbuf s.rpos i.length = .ok (encode i)
  fits : selOf i.opcode = 0 ∨ s.rpos + i.length ≤ s.params.cap
  base : ∀ target, i = .jump target → target = bufBase s.params s.cbuf.other

theorem executable_of_faces {s : State} {q : List Cmd} (inv : StateInv s) (contents : RingContents s q)
    (initialized : s.lc ≠ .uninit) (faces : Faces s q) : ∃ i, Executable s i := by
  have maxCmd : 1 ≤ s.params.maxCmd := by
    have valid := inv.params
    simp only [Params.valid, Bool.and_eq_true, decide_eq_true_eq] at valid
    omega
  cases faces with
  | terminator words =>
    exact ⟨.terminator 0,
      { wellFormed := wellFormed_iff.mpr ⟨decodeSize_internal (op := 0x00#8) (by decide), maxCmd⟩
        words := words
        fits := .inl (show selOf 0x00#8 = 0 by decide)
        base := nofun }⟩
  | jump words =>
    have buffer : s.cbuf ≠ s.active := fun here => ne_jumpWord_of_here contents initialized here s.active words
    exact ⟨.jump (bufBase s.params s.active),
      { wellFormed := wellFormed_iff.mpr ⟨decodeSize_internal (op := 0x02#8) (by decide), maxCmd⟩
        words := words
        fits := .inl (show selOf 0x02#8 = 0 by decide)
        base := fun target command => by
          cases command
          rw [eq_other_of_ne buffer, other_other] }⟩
  | @command c q words emittable past =>
    obtain ⟨i, rfl⟩ := exists_encodeCmd emittable.size
    obtain ⟨length, opcode⟩ := encodedSize i
    have fits : s.rpos + (encodeCmd i).size ≤ s.params.cap := rpos_le_cap past initialized inv.cursor
    have sized := decodeSize_of_opSize inv initialized emittable.size
    have maxCmd := emittable.maxCmd
    rw [length] at words fits sized maxCmd
    rw [opcode] at sized
    exact ⟨i,
      { wellFormed := wellFormed_iff.mpr ⟨sized, maxCmd⟩
        words := words
        fits := .inr fits
        base := fun target command => by
          subst command
          exact absurd opcode emittable.jump }⟩

theorem instr_length_ne_zero (i : Instr) : i.length ≠ 0 := by
  rw [← (encodedSize i).1]
  exact Nat.succ_ne_zero _

/-- What the decoder finds a size for is bound, if it is not internal (30_encoding.md R112). -/
theorem bound_of_decodeSize {s : State} {op : Byte} {n : Nat} (external : selOf op ≠ 0)
    (sized : decodeSize s op = some n) : ∃ id, s.selMap[selOf op] = some id := by
  unfold decodeSize at sized
  rw [if_neg external] at sized
  split at sized
  · cases sized
  · next id isBound => exact ⟨id, isBound⟩

theorem overlayExtent_of_executable {s : State} {i : Instr} (h : Executable s i) (external : selOf i.opcode ≠ 0) :
    ∃ id, overlayExtent s i.opcode = .ok (id, i.length) := by
  obtain ⟨sized, -⟩ := wellFormed_iff.mp h.wellFormed
  obtain ⟨id, isBound⟩ := bound_of_decodeSize external sized
  have fits := h.fits.resolve_left external
  obtain ⟨n, length⟩ := Nat.exists_eq_succ_of_ne_zero (instr_length_ne_zero i)
  rw [length] at sized fits ⊢
  exact ⟨id, overlayExtent_eq isBound (opSize_of_decodeSize sized) fits⟩

theorem exec_ownRecord {s t : State} {i : Instr} (running : s.fault = none) (h : Executable s i)
    (executed : exec i s = .next t) : OwnRecord t := by
  by_cases external : selOf i.opcode ≠ 0
  · obtain ⟨id, extent⟩ := overlayExtent_of_executable h external
    rw [← encodeCmd_op] at extent
    rw [exec_eq_dispatch external] at executed
    exact ownRecord_settle running executed (dispatch_raisesOwn _ extent) fun u => dispatch_fault
  · obtain ⟨ignored, rfl⟩ | ⟨ignored, rfl⟩ | ⟨target, rfl⟩ := internal_of_selOf (Decidable.not_not.mp external)
    · cases executed
      apply ownRecord_of_none
      split <;> exact running
    · cases executed
      exact ownRecord_of_none running
    · rw [exec_jump_base (h.base target rfl)] at executed
      cases executed
      exact ownRecord_of_none running

theorem consumerStep_ownRecord {s t : State} {q : List Cmd} (inv : StateInv s) (ring : RingInv s q)
    (running : s.fault = none) (next : consumerStep s = .next t) : OwnRecord t := by
  have contents := (ringInv_iff.mp ring).1
  cases state : s.cstate with
  | idle =>
    simp only [consumerStep, state] at next
    cases next
    exact ownRecord_of_none running
  | run =>
    have initialized : s.lc ≠ .uninit := by rw [started_of_run contents state]; decide
    obtain ⟨i, command⟩ := executable_of_faces inv contents initialized (faces_of_run contents state)
    rw [consumerStep_eq_exec state command.wellFormed command.words command.fits] at next
    exact exec_ownRecord running command next

/-! ### FENCE_IRQ and the block -/

/-- A pending completion has its fence (60_exceptions.md R425). -/
theorem fenceStep_raisesOwn {s : State} {q : List Cmd} (fences : FenceInv s q) :
    raisesOwn .fenceIrq (fenceStep s) = true := by
  have entries := fences.entries
  unfold fenceStep
  split
  · rfl
  · next n pending =>
    split
    · next empty =>
      rw [empty, pending, List.length_nil] at entries
      omega
    · rfl

theorem rasterizerStep_raisesOwn (s : State) : raisesOwn .rasterizer (rasterizerStep s) = true := by
  unfold rasterizerStep
  split
  · rfl
  · split <;> rfl

/-- Every fault of a safe run is one its agent raises in a safe run (R402). -/
theorem step_ownRecord {s t : State} (h : RunInv s) (running : s.fault = none) (next : step s = .next t) :
    OwnRecord t := by
  obtain ⟨inv, q, ring, fences⟩ := h
  have running' : (takeTurn s).fault = none := (takeTurn_fault s).trans running
  cases turn : nextTurn s with
  | powerOn =>
    rw [step_powerOn turn] at next
    cases next
    exact ownRecord_of_none rfl
  | agent a =>
    cases a with
    | producer =>
      rw [step_producer ⟨turn, running⟩] at next
      exact ownRecord_settle running' next (producerStep_raisesOwn _) fun u ok =>
        producerOutcome_fault (producer_outcome ok)
    | consumer =>
      rw [step_consumer ⟨turn, running⟩] at next
      exact consumerStep_ownRecord (stateInv_takeTurn inv) (ringInv_takeTurn ring) running' next
    | rasterizer =>
      rw [step_rasterizer ⟨turn, running⟩] at next
      refine ownRecord_settle running' next (rasterizerStep_raisesOwn _) fun u ok => ?_
      cases rasterizer_outcome ok <;> rfl
    | fenceIrq =>
      rw [step_fenceIrq ⟨turn, running⟩] at next
      refine ownRecord_settle running' next (fenceStep_raisesOwn (fenceInv_takeTurn fences)) fun u ok => ?_
      cases fence_outcome ok <;> rfl

/-- No agent's list names a defensive check; UNBOUND_SELECTOR is in PRODUCER's only. -/
theorem agentCodes_not_defensive (a : Agent) : ∀ code ∈ agentCodes a,
    code ∉ ([.invalidOpcode, .badJump, .ringOverrun, .spuriousFence] : List FaultCode)
      ∧ ¬(a = .consumer ∧ code = .unboundSelector) := by
  cases a <;> decide

/-- Settles O56: in a safe run each agent raises the faults of its list only. -/
theorem defensiveChecksNeverFail : Obligations.DefensiveChecksNeverFail := by
  intro s t r safe running next recorded
  exact agentCodes_not_defensive r.agent r.code (step_ownRecord safe running next r recorded)

end Sys2Proof.Proofs
end

section
/-! The decode faults of CONSUMER (43_consumer_dispatch.md R266 to R268), in the order of R260: the size check of the
opcode at its position fails before any other word is read. -/
namespace Sys2Proof.Proofs

open Sys2Proof Sys2Proof.Machine

/-- The size check reads nothing that a turn changes. -/
theorem commandSize_takeTurn (s : State) (op : Byte) : commandSize (takeTurn s) op = commandSize s op := by
  unfold takeTurn
  split <;> rfl

/-- A running consumer whose size check fails on word 0 raises the fault of the check. -/
theorem step_of_commandSize_error {s : State} {w0 : Word} {code : FaultCode} {info : List Word}
    (turn : AgentTurn s .consumer) (run : s.cstate = .run) (word : ringRead s s.cbuf s.rpos = .ok w0)
    (failed : commandSize s (field 24 8 w0) = .error (.raise code info)) :
    step s = .next (faulted s .consumer code info) := by
  have word' : ringRead (takeTurn s) s.cbuf s.rpos = .ok w0 :=
    (ringRead_congr (takeTurn_params s) (takeTurn_mem s) _ _).trans word
  have fetched : fetch (takeTurn s) = .error (.raise code info) := by
    simp only [fetch, takeTurn_cbuf, takeTurn_rpos, word', commandSize_takeTurn, failed]
  rw [step_consumer turn]
  simp only [consumerStep, takeTurn_cstate, run, fetched]
  exact settle_takeTurn_raise turn.2 code info

/-- R120: the opcodes 0x03 to 0x0F have no size. -/
theorem builtinSize_reserved {op : Byte} (internal : selOf op = 0) (reserved : 3 ≤ op.toNat) : builtinSize op = 0 := by
  have value := selOf_val op
  rw [internal] at value
  have small : op.toNat < 16 := (Nat.div_eq_zero_iff_lt (by decide)).mp value.symm
  unfold builtinSize
  split
  case h_36 => rfl
  all_goals omega

theorem commandSize_internal_invalid {s : State} {op : Byte} (internal : selOf op = 0) (invalid : builtinSize op = 0) :
    commandSize s op = .error (.raise .invalidOpcode (consumerInfo s (opWord op))) := by
  simp only [commandSize, internal, invalid, if_true]

theorem commandSize_unbound {s : State} {op : Byte} (external : selOf op ≠ 0) (unbound : s.selMap[selOf op] = none) :
    commandSize s op = .error (.raise .unboundSelector (consumerInfo s (opWord op))) := by
  simp only [commandSize, overlayExtent, external, unbound, if_false]

theorem commandSize_invalid {s : State} {op : Byte} {id : Fin 16} (external : selOf op ≠ 0)
    (isBound : s.selMap[selOf op] = some id) (invalid : opSize s op = some 0) :
    commandSize s op = .error (.raise .invalidOpcode (consumerInfo s (opWord op))) := by
  simp only [commandSize, overlayExtent, external, isBound, invalid, if_false, Option.getD_some, if_true]

theorem commandSize_overrun {s : State} {op : Byte} {id : Fin 16} {n : Nat} (external : selOf op ≠ 0)
    (isBound : s.selMap[selOf op] = some id) (size : opSize s op = some (n + 1))
    (overrun : s.params.cap < s.rpos + (n + 1)) :
    commandSize s op = .error (.raise .ringOverrun (consumerInfo s (opWord op))) := by
  simp only [commandSize, overlayExtent, external, isBound, size, overrun, if_false, Option.getD_some, if_true,
    Nat.add_one_ne_zero]

/-- Settles O5: each clause is one answer of the size check. -/
theorem decodeFaultsInOrder : Obligations.DecodeFaultsInOrder := by
  intro s w0 turn run word op info
  have raises {code : FaultCode} (failed : commandSize s op = .error (.raise code info)) :
      step s = .next (faulted s .consumer code info) := step_of_commandSize_error turn run word failed
  refine ⟨fun internal reserved => ?_, fun external unbound => ?_, fun id external isBound invalid => ?_,
    fun id n external isBound size overrun => ?_⟩
  · exact raises (commandSize_internal_invalid internal (builtinSize_reserved internal reserved))
  · exact raises (commandSize_unbound external unbound)
  · exact raises (commandSize_invalid external isBound invalid)
  · exact raises (commandSize_overrun external isBound size overrun)

end Sys2Proof.Proofs
end

section
/-! The dispatch of a command whose extent is known (43_consumer_dispatch.md R260): a fault of its handler, else the
mode check, the stall on a full RZ_Q, the commit (R276, R277). -/
namespace Sys2Proof.Proofs

open Sys2Proof Sys2Proof.Machine

/-! ### The handler and the commit -/

theorem exec_of_handled {s t : State} {i : Instr} {id : Fin 16} {n : Nat} {out : List Cmd}
    (external : selOf i.opcode ≠ 0) (extent : overlayExtent s i.opcode = .ok (id, n))
    (handled : handlerOf s id (encodeCmd i) (builtinAnswer s i) = .ok (out, t)) :
    exec i s = settle .consumer s (commitCommand s id n out t) := by
  simp only [exec_eq_dispatch external, dispatch, encodeCmd_op, extent, handled]

theorem exec_of_handler_error {s : State} {i : Instr} {id : Fin 16} {n : Nat} {e : Halt}
    (external : selOf i.opcode ≠ 0) (extent : overlayExtent s i.opcode = .ok (id, n))
    (failed : handlerOf s id (encodeCmd i) (builtinAnswer s i) = .error e) :
    exec i s = settle .consumer s (.error e) := by
  simp only [exec_eq_dispatch external, dispatch, encodeCmd_op, extent, failed]

/-- R276: the mode check comes before the stall. -/
theorem commitCommand_flips {s t : State} {id : Fin 16} {n : Nat} {out : List Cmd} {c : Cmd}
    (flips : flipInCopy s.omHi out = some c) :
    commitCommand s id n out t = .error (.raise .flipInCopy [c.w0]) := by
  simp only [commitCommand, flips]

theorem commitCommand_commits {s t : State} {id : Fin 16} {n : Nat} {out : List Cmd}
    (passes : flipInCopy s.omHi out = none) (room : s.rzQ.length + out.length ≤ s.params.rzqCap) :
    commitCommand s id n out t = .ok { forward t out with curOvl := id, rpos := s.rpos + n } := by
  simp only [commitCommand, passes, Nat.not_lt.mpr room, if_false]

/-! ### Built-in commands -/

/-- The built-in overlay answers every command of its selectors (R270). -/
theorem builtinAnswer_ne_none {s : State} {i : Instr} (builtin : selOf i.opcode < 4) : builtinAnswer s i ≠ none :=
  fun noAnswer => absurd (client_of_builtinAnswer_eq_none noAnswer) (Fin.not_le.mpr builtin)

/-- A command of selectors 0 to 3 has the size of its opcode (30_encoding.md R114 to R116). -/
theorem builtinSize_opcode {i : Instr} (builtin : selOf i.opcode < 4) : builtinSize i.opcode = i.length := by
  have answered : builtinAnswer State.reset i ≠ none := builtinAnswer_ne_none builtin
  cases i
  case clientSel4 | clientSel5 | clientSel6 | clientSel7 | clientSel8 | clientSel9 | clientSel10 | clientSel11
    | clientSel12 | clientSel13 | clientSel14 | clientSel15 => exact absurd rfl answered
  all_goals rfl

/-- A command bound to the built-in overlay that ends before the guard word goes on to the commit of its answer. -/
theorem exec_builtin {s t : State} {i : Instr} {out : List Cmd} (external : selOf i.opcode ≠ 0)
    (builtin : selOf i.opcode < 4) (isBound : s.selMap[selOf i.opcode] = some 1)
    (fits : s.rpos + i.length ≤ s.params.cap) (answer : builtinAnswer s i = some (out, t)) :
    exec i s = settle .consumer s (commitCommand s 1 i.length out t) := by
  have extent : overlayExtent s i.opcode = .ok (1, i.length) := by
    have size : opSize s i.opcode = some i.length :=
      (opSize_builtin builtin).trans (congrArg some (builtinSize_opcode builtin))
    obtain ⟨n, length⟩ := Nat.exists_eq_succ_of_ne_zero (instr_length_ne_zero i)
    rw [length] at size fits ⊢
    exact overlayExtent_eq isBound size fits
  refine exec_of_handled external extent ?_
  unfold handlerOf
  rw [if_pos rfl, answer]

/-- SET_OTHER_MODES is persisted when it is forwarded (R276). -/
theorem forward_setOtherModes (s : State) (hi : BitVec 24) (lo : Word) :
    forward s [encodeCmd (.setOtherModes hi lo)]
      = { s with rzQ := s.rzQ ++ [encodeCmd (.setOtherModes hi lo)], omHi := hi, omLo := lo } := by
  have op : (encodeCmd (.setOtherModes hi lo)).op = 0x2F#8 := encodeCmd_op _
  have a24 : (encodeCmd (.setOtherModes hi lo)).a24 = hi := cmd_a24 0x2F#8 hi [lo]
  simp only [forward, omHiAfter, omLoAfter, op, a24]
  rfl

/-- A ready built-in command that forwards one SET_OTHER_MODES, itself or a merged one. -/
theorem exec_forwards_setOtherModes {s : State} {i : Instr} {hi : BitVec 24} {lo : Word} (ready : CommandReady s i 1)
    (external : selOf i.opcode ≠ 0) (builtin : selOf i.opcode < 4)
    (answer : builtinAnswer s i = some ([encodeCmd (.setOtherModes hi lo)], s)) :
    exec i s = .next { forwarded s i.length (encodeCmd (.setOtherModes hi lo)) with omHi := hi, omLo := lo } := by
  obtain ⟨isBound, fits, room⟩ := ready
  have passes : flipInCopy s.omHi [encodeCmd (.setOtherModes hi lo)] = none :=
    flipInCopy_of_ne ((encodeCmd_op (.setOtherModes hi lo)).trans_ne (show 0x2F#8 ≠ 0x25#8 by decide)) s.omHi
  rw [exec_builtin external builtin isBound fits answer, commitCommand_commits passes room, forward_setOtherModes]
  rfl

/-- Settles O18: SET_OTHER_MODES forwards itself. -/
theorem setOtherModesIsPersisted : Obligations.SetOtherModesIsPersisted := by
  intro s omHi omLo ready
  exact exec_forwards_setOtherModes ready (show selOf 0x2F#8 ≠ 0 by decide) (show selOf 0x2F#8 < 4 by decide) rfl

/-- Settles O13: MODIFY_OTHER_MODES forwards the merged SET_OTHER_MODES, half by half. -/
theorem modifyOtherModesMerges : Obligations.ModifyOtherModesMerges := by
  intro s ignored0 half mask value ready m v hi lo
  refine exec_forwards_setOtherModes ready (show selOf 0x14#8 ≠ 0 by decide) (show selOf 0x14#8 < 4 by decide) ?_
  by_cases upper : half = 0
  · simp only [builtinAnswer, hi, lo, upper, if_true]
    rfl
  · simp only [builtinAnswer, hi, lo, upper, if_false]
    rfl

/-- Settles O15: the mode check passes out of COPY mode and faults in it, before the stall. -/
theorem flipIsForwardedUnlessCopyMode : Obligations.FlipIsForwardedUnlessCopyMode := by
  intro s xl yl opaque1 tile xh yh texS texT dsdx dtdy running i
  have opcode : (encodeCmd i).op = 0x25#8 := encodeCmd_op i
  have dispatched := @exec_builtin s s i [encodeCmd i] (show selOf 0x25#8 ≠ 0 by decide)
    (show selOf 0x25#8 < 4 by decide)
  refine ⟨fun ⟨isBound, fits, room⟩ notCopy => ?_, fun isBound fits copy => ?_⟩
  · have passes : flipInCopy s.omHi [encodeCmd i] = none := if_neg fun check => notCopy check.2
    have modes := modes_unchanged (c := encodeCmd i) (by rw [opcode]; decide) s.omHi s.omLo
    rw [dispatched isBound fits rfl, commitCommand_commits passes room, forward, modes.1, modes.2]
    rfl
  · have flips : flipInCopy s.omHi [encodeCmd i] = some (encodeCmd i) := if_pos ⟨opcode, copy⟩
    rw [dispatched isBound fits rfl, commitCommand_flips flips, settle_raise, raise_of_none running]
    rfl

/-- Every built-in command but SET_LOOKUP_ADDRESS forwards one command, a TEXTURE_RECTANGLE_FLIP only if it is one. -/
theorem builtinAnswer_one {i : Instr} (s : State) (builtin : selOf i.opcode < 4) (notLookup : i.opcode ≠ 0x10#8) :
    ∃ c, builtinAnswer s i = some ([c], s) ∧ (c.op = 0x25#8 → i.opcode = 0x25#8) := by
  have other {j : Instr} (ne : j.opcode ≠ 0x25#8) : (encodeCmd j).op = 0x25#8 → i.opcode = 0x25#8 := by
    rw [encodeCmd_op]
    exact fun same => absurd same ne
  have answered : builtinAnswer s i ≠ none := builtinAnswer_ne_none builtin
  cases i
  case setLookupAddress => exact absurd rfl notLookup
  case setColorImageDyn | setZImageDyn | setTextureImageDyn => exact ⟨_, rfl, other (by simp [Instr.opcode])⟩
  case modifyOtherModes =>
    refine ⟨_, rfl, ?_⟩
    split <;> exact other (by simp [Instr.opcode])
  case clientSel4 | clientSel5 | clientSel6 | clientSel7 | clientSel8 | clientSel9 | clientSel10 | clientSel11
    | clientSel12 | clientSel13 | clientSel14 | clientSel15 => exact absurd rfl answered
  all_goals exact ⟨_, rfl, fun same => (encodeCmd_op _).symm.trans same⟩

/-- A built-in command stalls on a full RZ_Q (R277). -/
theorem exec_builtin_stalls {s : State} {i : Instr} (external : selOf i.opcode ≠ 0) (builtin : selOf i.opcode < 4)
    (notLookup : i.opcode ≠ 0x10#8) (isBound : s.selMap[selOf i.opcode] = some 1)
    (fits : s.rpos + i.length ≤ s.params.cap) (full : s.params.rzqCap < s.rzQ.length + 1)
    (noFlip : ¬(i.opcode = 0x25#8 ∧ cycleType s.omHi = copyMode)) : exec i s = .next s := by
  obtain ⟨c, answer, flip⟩ := builtinAnswer_one s builtin notLookup
  have passes : flipInCopy s.omHi [c] = none := if_neg fun check => noFlip (check.imp_left flip)
  rw [exec_builtin external builtin isBound fits answer, commitCommand_stalls passes full, settle_ok]

end Sys2Proof.Proofs
end

section
/-! The client commands (43_consumer_dispatch.md R275): what the overlay's handler answers, check by check, and the
commit of a good answer. -/
namespace Sys2Proof.Proofs

open Sys2Proof Sys2Proof.Machine

/-! ### The checks of a handler's answer (R275) -/

theorem clientHandler_fail {s : State} {id : Fin 16} {c : Cmd} {h : Handler} {info : List Word}
    (handler : s.ovlDesc[id].handler = .client h) (answer : handlerValue h c.op c s.ovlState[id] = .fail info) :
    clientHandler s id c = .error (.raise .handlerFault (opWord c.op :: info)) := by
  simp only [clientHandler, handler, answer]

theorem clientHandler_badCommand {s : State} {id : Fin 16} {c d : Cmd} {h : Handler} {out : List Cmd} {st : List Word}
    (handler : s.ovlDesc[id].handler = .client h) (answer : handlerValue h c.op c s.ovlState[id] = .ok out st)
    (first : out.find? mayNotForward = some d) :
    clientHandler s id c = .error (.raise .badForward [opWord c.op, opWord d.op]) := by
  simp only [clientHandler, handler, answer, first]

theorem clientHandler_tooMany {s : State} {id : Fin 16} {c : Cmd} {h : Handler} {out : List Cmd} {st : List Word}
    (handler : s.ovlDesc[id].handler = .client h) (answer : handlerValue h c.op c s.ovlState[id] = .ok out st)
    (forwardable : ∀ d ∈ out, Forwardable d) (tooMany : s.params.rzqCap < out.length) :
    clientHandler s id c = .error (.raise .badForward [opWord c.op, wordOfNat out.length]) := by
  simp only [clientHandler, handler, answer, find_mayNotForward forwardable, tooMany, if_true]

/-- The first command that may not be forwarded is the one after forwardable ones. -/
theorem find_mayNotForward_first {before after : List Cmd} {d : Cmd} (forwardable : ∀ e ∈ before, Forwardable e)
    (bad : ¬Forwardable d) : (before ++ d :: after).find? mayNotForward = some d := by
  have found : mayNotForward d = true := Bool.eq_true_of_not_eq_false (mt mayNotForward_eq_false.mp bad)
  rw [List.find?_append, find_mayNotForward forwardable, Option.none_or, List.find?_cons_of_pos found]

/-! ### The twelve client commands (30_encoding.md R111) -/

/-- The twelve commands have their argument words and word 0, and no built-in handler. -/
theorem clientForm_shape {fn : BitVec 4} {a24 : BitVec 24} {args : List Word} {i : Instr}
    (form : i ∈ clientForms fn a24 args) (s : State) : i.length = args.length + 1 ∧ builtinAnswer s i = none := by
  have shapes : ∀ j ∈ clientForms fn a24 args, j.length = args.length + 1 ∧ builtinAnswer s j = none := by
    simp [clientForms, Instr.length, builtinAnswer]
  exact shapes i form

section ClientCommand

variable {s t : State} {fn : BitVec 4} {a24 : BitVec 24} {args : List Word} {i : Instr} {id : Fin 16} {h : Handler}
  {out : List Cmd}

theorem clientForm_selOf (form : i ∈ clientForms fn a24 args) : 4 ≤ selOf i.opcode :=
  client_of_builtinAnswer_eq_none (clientForm_shape form State.reset).2

theorem clientForm_external (form : i ∈ clientForms fn a24 args) : selOf i.opcode ≠ 0 := by
  have client := clientForm_selOf form
  omega

/-- A ready client command passes the size checks (R260). -/
theorem overlayExtent_client (form : i ∈ clientForms fn a24 args)
    (ready : ClientReady s i.opcode (args.length + 1) id h) :
    overlayExtent s i.opcode = .ok (id, args.length + 1) := by
  obtain ⟨isBound, -, size, fits, -⟩ := ready
  have client := clientForm_selOf form
  refine overlayExtent_eq isBound ?_ fits
  simp only [opSize, Fin.not_lt.mpr client, if_false, isBound, size]

/-- A client overlay's command goes to its handler (R270). -/
theorem handlerOf_client {n : Nat} (ready : ClientReady s i.opcode n id h) (builtin : Option (List Cmd × State)) :
    handlerOf s id (encodeCmd i) builtin = clientHandler s id (encodeCmd i) := by
  obtain ⟨-, client, -⟩ := ready
  exact if_neg client

theorem exec_client_error (form : i ∈ clientForms fn a24 args)
    (ready : ClientReady s i.opcode (args.length + 1) id h) {e : Halt}
    (failed : clientHandler s id (encodeCmd i) = .error e) : exec i s = settle .consumer s (.error e) :=
  exec_of_handler_error (clientForm_external form) (overlayExtent_client form ready)
    ((handlerOf_client ready _).trans failed)

theorem exec_client_ok (form : i ∈ clientForms fn a24 args)
    (ready : ClientReady s i.opcode (args.length + 1) id h)
    (handled : clientHandler s id (encodeCmd i) = .ok (out, t)) :
    exec i s = settle .consumer s (commitCommand s id (args.length + 1) out t) :=
  exec_of_handled (clientForm_external form) (overlayExtent_client form ready)
    ((handlerOf_client ready _).trans handled)

/-- A good answer goes on to the commit, the overlay's state written (R272). -/
theorem exec_client_good {st : List Word} (form : i ∈ clientForms fn a24 args)
    (ready : ClientReady s i.opcode (args.length + 1) id h)
    (answer : handlerValue h i.opcode (encodeCmd i) s.ovlState[id] = .ok out st)
    (forwardable : ∀ d ∈ out, Forwardable d) (few : out.length ≤ s.params.rzqCap) :
    exec i s = settle .consumer s
      (commitCommand s id (args.length + 1) out { s with ovlState := s.ovlState.set id st }) := by
  have ⟨_, _, _, _, handler⟩ := ready
  rw [← encodeCmd_op] at answer
  exact exec_client_ok form ready (clientHandler_good handler answer forwardable few)

end ClientCommand

/-! ### Commit, stall and faults -/

/-- Settles O22: the mode check passes and RZ_Q has room. -/
theorem clientCommandCommits : Obligations.ClientCommandCommits := by
  intro s fn a24 args i id h out st form ready answer forwardable room passes
  rw [exec_client_good form ready answer forwardable (by omega), commitCommand_commits passes room]
  rfl

/-- Settles O21: the mode check passes and RZ_Q has no room, for a built-in command and for a client command. -/
theorem fullQueueStallsConsumer : Obligations.FullQueueStallsConsumer := by
  constructor
  · intro s i selector notLookup isBound fits full noFlip
    have cases : selOf i.opcode = 1 ∨ selOf i.opcode = 2 ∨ selOf i.opcode = 3 := by simpa using selector
    exact exec_builtin_stalls (by omega) (by omega) notLookup isBound fits full noFlip
  · intro s fn a24 args i id h out st form ready answer forwardable few passes full
    rw [exec_client_good form ready answer forwardable few, commitCommand_stalls passes full, settle_ok]

/-- Settles O23: the checks of the answer in the order of R275, then the mode check (R276). -/
theorem clientHandlerFaults : Obligations.ClientHandlerFaults := by
  intro s fn a24 args i id h running form ready op answer fail modeAfter
  have ⟨_, _, _, _, handler⟩ := ready
  have opcode : (encodeCmd i).op = i.opcode := encodeCmd_op i
  have value {r : HandlerResult} (same : answer = r) :
      handlerValue h (encodeCmd i).op (encodeCmd i) s.ovlState[id] = r := by rw [opcode]; exact same
  have raises {code : FaultCode} {info : List Word} (contract : code.cls = .contract) :
      settle .consumer s (.error (.raise code info)) = .next (fail code info) := by
    rw [settle_raise, raise_of_none running, contract]
  refine ⟨fun info failed => ?_, fun before d after st ok forwardable bad => ?_,
    fun out st ok forwardable tooMany => ?_, fun before c after st ok forwardable few noFlip flip copy => ?_⟩
  · rw [exec_client_error form ready (clientHandler_fail handler (value failed)), opcode]
    exact raises rfl
  · have first := find_mayNotForward_first (after := after) forwardable bad
    rw [exec_client_error form ready (clientHandler_badCommand handler (value ok) first), opcode]
    exact raises rfl
  · rw [exec_client_error form ready (clientHandler_tooMany handler (value ok) forwardable tooMany), opcode]
    exact raises rfl
  · have mode : cycleType (omHiAfter s.omHi before) = copyMode := by
      rw [omHiAfter_eq_getLastD]
      exact copy
    have flips := flipInCopy_append (after := after) noFlip flip mode
    rw [exec_client_good form ready ok forwardable few, commitCommand_flips flips]
    exact raises rfl

end Sys2Proof.Proofs
end

section
/-! What a command leaves unchanged (43_consumer_dispatch.md R265, R273, R274): by the outcomes of `exec`, only a commit
writes a LOOKUP entry or an overlay's state, and it moves the position by the command's size. -/
namespace Sys2Proof.Proofs

open Sys2Proof Sys2Proof.Machine

/-! ### LOOKUP (45_fixup_commands.md R370, R375) -/

/-- Every index but the one written keeps its entry. -/
theorem lookupWrite_lookup_ne {s : State} {k index : BitVec 4} (other : k ≠ index) (addr : Addr) :
    (lookupWrite s k addr).lookup[index.toFin] = s.lookup[index.toFin] := by
  rw [Fin.getElem_fin, Fin.getElem_fin]
  simp only [lookupWrite_lookup]
  split
  · rfl
  · exact Vector.getElem_set_ne _ _ fun same => other (BitVec.eq_of_toNat_eq same)

theorem builtinAnswer_lookup {s u : State} {i : Instr} {out : List Cmd} {index : BitVec 4}
    (answer : builtinAnswer s i = some (out, u))
    (other : ∀ ignored0 ignored1 addr, i ≠ .setLookupAddress ignored0 index ignored1 addr) :
    u.lookup[index.toFin] = s.lookup[index.toFin] := by
  cases i with
  | setLookupAddress ignored0 k ignored1 addr =>
    cases answer
    refine lookupWrite_lookup_ne ?_ addr
    rintro rfl
    exact other ignored0 ignored1 addr rfl
  | _ => cases answer <;> rfl

/-- The other handlers write no entry: a client handler has no access to LOOKUP (R274). -/
theorem handlerOf_lookup {s u : State} {id : Fin 16} {i : Instr} {out : List Cmd} {index : BitVec 4}
    (handled : handlerOf s id (encodeCmd i) (builtinAnswer s i) = .ok (out, u))
    (other : ∀ ignored0 ignored1 addr, i ≠ .setLookupAddress ignored0 index ignored1 addr) :
    u.lookup[index.toFin] = s.lookup[index.toFin] := by
  obtain ⟨-, answer⟩ | ⟨-, answer⟩ := handlerOf_ok handled
  · exact builtinAnswer_lookup answer other
  · obtain ⟨_, _, -, -, -, -, rfl⟩ := clientHandler_ok answer
    rfl

/-- Settles O12: the entry cancels in the difference, and a commit alone can write it. -/
theorem identicalResolution : Obligations.IdenticalResolution := by
  constructor
  · intro s₁ s₂ index o₁ o₂ same
    have entry : lookupRead s₁ index = lookupRead s₂ index := by simp only [lookupRead, same]
    rw [resolve, resolve, entry, add_sub_add_left_eq_sub]
  · intro i s t index executed other
    cases exec_outcome executed with
    | committed id n out u external extent handled fits =>
      have kept := handlerOf_lookup handled other
      exact kept
    | raised code info => rw [raise_lookup]
    | _ => rfl

/-! ### OVL_STATE (R273) -/

/-- A handler writes no overlay's state but that of the client overlay it belongs to. -/
theorem handlerOf_ovlState {s u : State} {k id : Fin 16} {i : Instr} {out : List Cmd}
    (handled : handlerOf s k (encodeCmd i) (builtinAnswer s i) = .ok (out, u)) (other : id = 1 ∨ k ≠ id) :
    u.ovlState[id] = s.ovlState[id] := by
  obtain ⟨-, answer⟩ | ⟨client, answer⟩ := handlerOf_ok handled
  · rw [(builtinAnswer_writes answer).1]
  · obtain ⟨_, st, -, -, -, -, rfl⟩ := clientHandler_ok answer
    have ne : k ≠ id := by
      rintro rfl
      exact other.elim client fun ne => ne rfl
    exact Vector.getElem_set_ne k.isLt id.isLt fun same => ne (Fin.ext same)

/-- Settles O24: a commit is of the overlay that the selector is bound to. -/
theorem overlayStateSurvivesOtherCommands : Obligations.OverlayStateSurvivesOtherCommands := by
  intro i s t id executed other
  cases exec_outcome executed with
  | committed k n out u external extent handled fits =>
    have unbound : id = 1 ∨ k ≠ id := (other.resolve_left external).imp_right fun notBound => by
      rintro rfl
      exact notBound (overlayExtent_ok extent).1
    have kept := handlerOf_ovlState handled unbound
    exact kept
  | raised code info => rw [raise_ovlState]
  | _ => rfl

/-! ### The position (R265) -/

theorem raise_eq (s : State) (a : Agent) (code : FaultCode) (info : List Word) :
    raise s a code info = { s with fault := (raise s a code info).fault } := by
  unfold raise
  split <;> rfl

/-- Settles O27, by the outcomes: a fault and a stall leave the position, a commit adds the size of the extent check. -/
theorem positionAdvancesBySize : Obligations.PositionAdvancesBySize := by
  intro i s t wellFormed executed
  constructor
  · intro notTerminator notJump
    cases exec_outcome executed with
    | signalled ignored command | paused ignored command => exact absurd command (notTerminator ignored)
    | jumped target command => exact absurd command (notJump target)
    | skipped ignored command => exact ⟨rfl, .inl (by rw [command]; rfl)⟩
    | raised code info => exact ⟨raise_cbuf s _ _ _, .inr (raise_eq s _ _ _)⟩
    | stalled => exact ⟨rfl, .inr rfl⟩
    | committed id n out u external extent handled fits =>
      have size : n = i.length := by
        obtain ⟨-, sized, -⟩ := overlayExtent_ok extent
        rw [sized, opSize_of_decodeSize (wellFormed_iff.mp wellFormed).1]
        rfl
      rw [(handlerOf_writes handled).1, size]
      exact ⟨rfl, .inl rfl⟩
  · rintro ignored rfl
    rw [exec_terminator] at executed
    cases executed
    split <;> exact ⟨rfl, rfl⟩

end Sys2Proof.Proofs
end

section
/-! The fixed commands that are forwarded word for word (44_rasterizer_commands.md R300): those that neither depend on the
persisted mode nor change it (43_consumer_dispatch.md R276). -/
namespace Sys2Proof.Proofs

open Sys2Proof Sys2Proof.Machine

/-- The opcodes of the fixed commands, selectors 2 and 3, but TEXTURE_RECTANGLE_FLIP, which the mode check can stop, and
SET_OTHER_MODES, which is persisted (R276). -/
abbrev PassesInEveryMode (op : Byte) : Prop :=
  (selOf op = 2 ∨ selOf op = 3) ∧ op ≠ 0x25 ∧ op ≠ 0x2F

theorem PassesInEveryMode.builtin {op : Byte} (passes : PassesInEveryMode op) : selOf op < 4 := by
  obtain ⟨selector, -, -⟩ := passes
  omega

/-- The built-in handler's answer to a fixed command is the command itself. -/
theorem builtinAnswer_self {i : Instr} (s : State) (passes : PassesInEveryMode i.opcode) :
    builtinAnswer s i = some ([encodeCmd i], s) := by
  have answered : builtinAnswer s i ≠ none := builtinAnswer_ne_none passes.builtin
  cases i
  case setLookupAddress | setColorImageDyn | setZImageDyn | setTextureImageDyn | modifyOtherModes =>
    simp only [Instr.opcode] at passes
    exact absurd passes (by decide)
  case clientSel4 | clientSel5 | clientSel6 | clientSel7 | clientSel8 | clientSel9 | clientSel10 | clientSel11
    | clientSel12 | clientSel13 | clientSel14 | clientSel15 => exact absurd rfl answered
  all_goals rfl

theorem exec_eq_passThrough {i : Instr} (s : State) (passes : PassesInEveryMode i.opcode) :
    exec i s = passThrough s i := by
  have external : selOf i.opcode ≠ 0 := by
    obtain ⟨selector, -, -⟩ := passes
    omega
  rw [exec_eq_dispatch external, builtinAnswer_self s passes, passThrough]

/-- R300: such a command, when nothing stops it, is forwarded word for word, whatever the persisted mode. -/
theorem exec_forwards_self {s : State} {i : Instr} (ready : CommandReady s i 1)
    (passes : PassesInEveryMode i.opcode) : exec i s = .next (forwarded s i.length (encodeCmd i)) := by
  have ⟨_, notFlip, notModes⟩ := passes
  have noFlip : flipInCopy s.omHi [encodeCmd i] = none := flipInCopy_of_ne (by rwa [encodeCmd_op]) s.omHi
  obtain ⟨n, length⟩ := Nat.exists_eq_succ_of_ne_zero (instr_length_ne_zero i)
  have size : builtinSize i.opcode = n + 1 := (builtinSize_opcode passes.builtin).trans length
  rw [exec_eq_passThrough s passes, length]
  exact passThrough_ready ready length size passes.builtin (encodeCmd_op i) noFlip notModes

/-- A row of a table of two-word commands: such a command, with the words of its encoding. -/
structure ForwardsBothWords (i : Instr) (c : Cmd) : Prop where
  passes : PassesInEveryMode i.opcode
  size : i.length = 2
  words : encodeCmd i = c

theorem ForwardsBothWords.exec_eq {s : State} {i : Instr} {c : Cmd} (row : ForwardsBothWords i c)
    (ready : CommandReady s i 1) : exec i s = .next (forwarded s 2 c) := by
  rw [exec_forwards_self ready row.passes, row.size, row.words]

/-- Settles O14: TEXTURE_RECTANGLE, unlike its flipped form, is not subject to the mode check. -/
theorem textureRectangleIsForwarded : Obligations.TextureRectangleIsForwarded := by
  intro s xl yl opaque1 tile xh yh texS texT dsdx dtdy ready
  exact exec_forwards_self ready (show PassesInEveryMode 0x24#8 by decide)

/-- Settles O16: each row of the table is a command forwarded as its own encoding. -/
theorem syncCommandsAreForwarded : Obligations.SyncCommandsAreForwarded := by
  intro s zero0 zero1 i c inTable ready
  refine ForwardsBothWords.exec_eq ?_ ready
  simp only [List.mem_cons, Prod.mk.injEq, List.not_mem_nil, or_false] at inTable
  obtain ⟨rfl, rfl⟩ | ⟨rfl, rfl⟩ | ⟨rfl, rfl⟩ | ⟨rfl, rfl⟩ := inTable
  all_goals exact ⟨by simp only [Instr.opcode]; decide, rfl, rfl⟩

/-- Settles O17: none of the five is SET_OTHER_MODES, so the persisted mode stays. -/
theorem modeCommandsAreForwarded : Obligations.ModeCommandsAreForwarded := by
  intro s a w x0 y0 x1 y1 opaque1 i c inTable ready
  refine ForwardsBothWords.exec_eq ?_ ready
  simp only [List.mem_cons, Prod.mk.injEq, List.not_mem_nil, or_false] at inTable
  obtain ⟨rfl, rfl⟩ | ⟨rfl, rfl⟩ | ⟨rfl, rfl⟩ | ⟨rfl, rfl⟩ | ⟨rfl, rfl⟩ := inTable
  all_goals exact ⟨by simp only [Instr.opcode]; decide, rfl, rfl⟩

/-- Settles O19: each row of the table is a command forwarded as its own encoding. -/
theorem tileAndColorCommandsAreForwarded : Obligations.TileAndColorCommandsAreForwarded := by
  intro s a w tile opaqueT opaque2 x1 y1 x0 y0 opaque1 i c inTable ready
  refine ForwardsBothWords.exec_eq ?_ ready
  simp only [List.mem_cons, Prod.mk.injEq, List.not_mem_nil, or_false] at inTable
  obtain ⟨rfl, rfl⟩ | ⟨rfl, rfl⟩ | ⟨rfl, rfl⟩ | ⟨rfl, rfl⟩ | ⟨rfl, rfl⟩ | ⟨rfl, rfl⟩ | ⟨rfl, rfl⟩ | ⟨rfl, rfl⟩
    | ⟨rfl, rfl⟩ | ⟨rfl, rfl⟩ | ⟨rfl, rfl⟩ | ⟨rfl, rfl⟩ := inTable
  all_goals exact ⟨by simp only [Instr.opcode]; decide, rfl, rfl⟩

/-- Settles O20: the address is a part of the words forwarded, and no check reads it. -/
theorem imageCommandsAreForwarded : Obligations.ImageCommandsAreForwarded := by
  intro s format opaque0 strideUnits a zero1 addr i c inTable ready
  refine ForwardsBothWords.exec_eq ?_ ready
  simp only [List.mem_cons, Prod.mk.injEq, List.not_mem_nil, or_false] at inTable
  obtain ⟨rfl, rfl⟩ | ⟨rfl, rfl⟩ | ⟨rfl, rfl⟩ := inTable
  all_goals exact ⟨by simp only [Instr.opcode]; decide, rfl, rfl⟩

end Sys2Proof.Proofs
end

section
/-! The dynamic set-image commands (45_fixup_commands.md R371 to R374): each forwards its fixed command, which no mode
stops and which leaves the persisted mode alone (43_consumer_dispatch.md R276). -/
namespace Sys2Proof.Proofs

open Sys2Proof Sys2Proof.Machine

/-- A ready built-in command whose handler answers one fixed command appends that command to RZ_Q and advances. -/
theorem exec_forwards_in_place {s : State} {i j : Instr} (ready : CommandReady s i 1)
    (external : selOf i.opcode ≠ 0) (builtin : selOf i.opcode < 4) (passes : PassesInEveryMode j.opcode)
    (answer : builtinAnswer s i = some ([encodeCmd j], s)) :
    exec i s = .next (forwarded s i.length (encodeCmd j)) := by
  obtain ⟨isBound, fits, room⟩ := ready
  obtain ⟨-, notFlip, notModes⟩ := passes
  have noFlip : flipInCopy s.omHi [encodeCmd j] = none := flipInCopy_of_ne (by rwa [encodeCmd_op]) s.omHi
  obtain ⟨hiKept, loKept⟩ := modes_unchanged (c := encodeCmd j) (by rwa [encodeCmd_op]) s.omHi s.omLo
  rw [exec_builtin external builtin isBound fits answer, commitCommand_commits noFlip room, forward, hiKept, loKept]
  rfl

/-- Settles O11: each answers its fixed command, with the address that `resolve` gives (R371). -/
theorem dynamicImagesForwardResolvedAddress : Obligations.DynamicImagesForwardResolvedAddress := by
  intro s format opaque0 strideUnits opaqueZ index ignored1 offset addr
  have resolved : resolve s index offset = addr := rfl
  rw [← resolved]
  refine ⟨fun ready => ?color, fun ready => ?depth, fun ready => ?texture⟩
  case color =>
    exact exec_forwards_in_place (j := .setColorImage format opaque0 strideUnits 0 (resolve s index offset)) ready
      (show selOf 0x11#8 ≠ 0 by decide) (show selOf 0x11#8 < 4 by decide)
      (show PassesInEveryMode 0x3F#8 by decide) rfl
  case depth =>
    exact exec_forwards_in_place (j := .setZImage opaqueZ 0 (resolve s index offset)) ready
      (show selOf 0x12#8 ≠ 0 by decide) (show selOf 0x12#8 < 4 by decide)
      (show PassesInEveryMode 0x3E#8 by decide) rfl
  case texture =>
    exact exec_forwards_in_place (j := .setTextureImage format opaque0 strideUnits 0 (resolve s index offset)) ready
      (show selOf 0x13#8 ≠ 0 by decide) (show selOf 0x13#8 < 4 by decide)
      (show PassesInEveryMode 0x3D#8 by decide) rfl

end Sys2Proof.Proofs
end

section
/-! RASTERIZER and FENCE_IRQ as their agents' turns, and the fault codes (60_exceptions.md R402, R420 to R425). -/
namespace Sys2Proof.Proofs

open Sys2Proof Sys2Proof.Machine

/-! ### RASTERIZER (R420, R421) -/

theorem rasterizerStep_empty {s : State} (empty : s.rzQ = []) : rasterizerStep s = .ok s := by
  simp only [rasterizerStep, empty]

theorem rasterizerStep_hazard {s : State} {c : Cmd} {q : List Cmd} (head : s.rzQ = c :: q)
    (hit : hazardHit s.rzInuse c ≠ 0) :
    rasterizerStep s = .error (.raise .rzHazard [c.w0, hazardHit s.rzInuse c]) := by
  simp only [rasterizerStep, head]
  exact if_pos hit

theorem rasterizerStep_completes {s : State} {c : Cmd} {q : List Cmd} (head : s.rzQ = c :: q)
    (noHit : hazardHit s.rzInuse c = 0) :
    rasterizerStep s = .ok { s with
      rzQ := q
      rzLog := s.rzLog ++ [c]
      rzInuse := hazardUpdate s.rzInuse (hzClear c) (hzUse c)
      irqPending := s.irqPending + if c.op = 0x29 then 1 else 0 } := by
  have counts : (if c.op = 0x29 then s.irqPending + 1 else s.irqPending)
      = s.irqPending + if c.op = 0x29 then 1 else 0 := by split <;> rfl
  simp only [rasterizerStep, head, counts]
  exact if_neg (not_not_intro noHit)

/-- Settles O46, by the head of RZ_Q and the observer's hit on it. -/
theorem rasterizerCompletesInOrder : Obligations.RasterizerCompletesInOrder := by
  intro s turn
  rw [step_rasterizer turn]
  refine ⟨fun empty => ?_, fun c q head => ⟨fun hit => ?_, fun noHit => ?_⟩⟩
  · rw [rasterizerStep_empty ((takeTurn_rzQ s).trans empty), settle_ok]
  · rw [← takeTurn_rzInuse s] at hit ⊢
    rw [rasterizerStep_hazard ((takeTurn_rzQ s).trans head) hit]
    exact settle_takeTurn_raise turn.2 _ _
  · rw [← takeTurn_rzInuse s] at noHit
    rw [rasterizerStep_completes ((takeTurn_rzQ s).trans head) noHit]
    simp only [settle_ok, hazardUpdate, takeTurn_rzLog, takeTurn_rzInuse, takeTurn_irqPending]

/-! ### FENCE_IRQ (R425) -/

theorem fenceStep_nothing {s : State} (nothing : s.irqPending = 0) : fenceStep s = .ok s := by
  simp only [fenceStep, nothing]

theorem fenceStep_spurious {s : State} (pending : 0 < s.irqPending) (empty : s.fenceQ = []) :
    fenceStep s = .error (.raise .spuriousFence []) := by
  obtain ⟨n, count⟩ := Nat.exists_eq_succ_of_ne_zero pending.ne'
  simp only [fenceStep, count, empty]

theorem fenceStep_services {s : State} {e : FenceEntry} {q : List FenceEntry} (pending : 0 < s.irqPending)
    (head : s.fenceQ = e :: q) :
    fenceStep s = .ok { s with
      irqPending := s.irqPending - 1
      fenceQ := q
      fenceDone := s.fenceDone + 1
      cbLog := s.cbLog ++ invoked e } := by
  obtain ⟨n, count⟩ := Nat.exists_eq_succ_of_ne_zero pending.ne'
  simp only [fenceStep, count, head, Nat.succ_sub_one]

/-- Settles O47, by the pending completions and the oldest entry; NOCB invokes nothing. -/
theorem fenceIrqServicesOldestFence : Obligations.FenceIrqServicesOldestFence := by
  intro s turn
  rw [step_fenceIrq turn]
  refine ⟨fun nothing => ?_, fun pending empty => ?_, fun e q pending head => ?_⟩
  · rw [fenceStep_nothing ((takeTurn_irqPending s).trans nothing), settle_ok]
  · rw [← takeTurn_irqPending s] at pending
    rw [fenceStep_spurious pending ((takeTurn_fenceQ s).trans empty)]
    exact settle_takeTurn_raise turn.2 _ _
  · rw [← takeTurn_irqPending s] at pending
    rw [fenceStep_services pending ((takeTurn_fenceQ s).trans head)]
    cases e <;> simp only [settle_ok, invoked, takeTurn_irqPending, takeTurn_fenceDone, takeTurn_cbLog]

/-! ### The fault codes (R402) -/

/-- The code and the class of a fault are those of its row. -/
abbrev RowHolds (row : FaultCode × Nat × FaultClass) : Prop :=
  row.1.value = BitVec.ofNat 8 row.2.1 ∧ row.1.cls = row.2.2

/-- Settles O49: every row of the table holds. -/
theorem faultCodesAndClasses : Obligations.FaultCodesAndClasses := by
  intro c v k row
  refine (?table : ∀ r ∈ _, RowHolds r) (c, v, k) row
  case table => decide

end Sys2Proof.Proofs
end

section
/-! Faults are precise and halt the block (60_exceptions.md R401, R405): what completes writes nothing of FAULT, and what
raises leaves the state before the step plus the record of the agent whose turn it was. -/
namespace Sys2Proof.Proofs

open Sys2Proof Sys2Proof.Machine

/-- What a turn of agent `a` may leave of FAULT (R401): nothing recorded, or the state before the step plus the record
of that agent. -/
def Precise (s : State) (a : Agent) (t : State) : Prop := t.fault = none ∨ ∃ code info, t = faulted s a code info

theorem precise_of_kept {s t : State} {a : Agent} (running : s.fault = none) (kept : t.fault = (takeTurn s).fault) :
    Precise s a t :=
  .inl (kept.trans ((takeTurn_fault s).trans running))

theorem precise_raise {s : State} (running : s.fault = none) (a : Agent) (code : FaultCode) (info : List Word) :
    Precise s a (raise (takeTurn s) a code info) :=
  .inr ⟨code, info, (faulted_eq_raise running a code info).symm⟩

theorem precise_settle {s t : State} {a : Agent} {r : Except Halt State} (running : s.fault = none)
    (next : settle a (takeTurn s) r = .next t) (kept : ∀ u, r = .ok u → u.fault = (takeTurn s).fault) :
    Precise s a t := by
  obtain ok | ⟨code, info, -, rfl⟩ := settle_next next
  · exact precise_of_kept running (kept t ok)
  · exact precise_raise running a code info

theorem precise_settle_error {s t : State} {a : Agent} {e : Halt} (running : s.fault = none)
    (next : settle a (takeTurn s) (.error e) = .next t) : Precise s a t :=
  precise_settle running next fun _ completed => by cases completed

theorem precise_exec {s t : State} {i : Instr} (running : s.fault = none) (executed : exec i (takeTurn s) = .next t) :
    Precise s .consumer t := by
  cases exec_outcome executed with
  | raised code info => exact precise_raise running .consumer code info
  | committed id n out u external extent handled fits =>
    refine precise_of_kept running ?_
    rw [(handlerOf_writes handled).1]
    rfl
  | _ => exact precise_of_kept running rfl

theorem precise_consumerStep {s t : State} (running : s.fault = none) (next : consumerStep (takeTurn s) = .next t) :
    Precise s .consumer t := by
  unfold consumerStep at next
  split at next
  · cases next
    exact precise_of_kept running rfl
  · split at next
    · exact precise_settle_error running next
    · split at next
      · exact precise_settle_error running next
      · exact precise_exec running next

/-- A turn of any agent is precise (R401). -/
theorem precise_step {s t : State} {a : Agent} (turn : AgentTurn s a) (next : step s = .next t) : Precise s a t := by
  have running := turn.2
  cases a with
  | producer =>
    rw [step_producer turn] at next
    exact precise_settle running next fun u ok => producerOutcome_fault (producer_outcome ok)
  | consumer =>
    rw [step_consumer turn] at next
    exact precise_consumerStep running next
  | rasterizer =>
    rw [step_rasterizer turn] at next
    refine precise_settle running next fun u ok => ?_
    cases rasterizer_outcome ok <;> rfl
  | fenceIrq =>
    rw [step_fenceIrq turn] at next
    refine precise_settle running next fun u ok => ?_
    cases fence_outcome ok <;> rfl

/-- Power-on reset clears FAULT (R405). -/
theorem step_powerOn_fault {s t : State} (turn : nextTurn s = .powerOn) (next : step s = .next t) : t.fault = none := by
  rw [step_powerOn turn] at next
  cases next
  rfl

/-- Settles O48: every agent's turn is precise, and none has a step once FAULT is set. -/
theorem faultIsPreciseAndHalts : Obligations.FaultIsPreciseAndHalts := by
  refine ⟨fun s t running next => ?_, fun s r halted => ⟨fun a turn => step_halted turn halted, fun t next => ?_⟩⟩
  · cases turn : nextTurn s with
    | powerOn => exact .inl (step_powerOn_fault turn next)
    | agent a =>
      refine (precise_step ⟨turn, running⟩ next).imp_right fun ⟨code, info, recorded⟩ => ?_
      exact ⟨a, code, info, rfl, recorded⟩
  · cases turn : nextTurn s with
    | powerOn => exact ⟨rfl, step_powerOn_fault turn next⟩
    | agent a =>
      rw [step_halted turn halted] at next
      cases next

end Sys2Proof.Proofs
end

section
/-! Every agent takes its turn (60_exceptions.md R434): each step takes exactly its turn from the inputs, so a safe run
reaches every turn that the inputs name, and past the listed turns these are the schedule's, which is fair. -/
namespace Sys2Proof.Proofs

open Sys2Proof Sys2Proof.Machine

/-! ### The inputs that name the turns -/

/-- The two states have the same turns to come. -/
structure SameInputs (s t : State) : Prop where
  turns : t.turns = s.turns
  tick : t.tick = s.tick

theorem SameInputs.refl (s : State) : SameInputs s s := ⟨rfl, rfl⟩

theorem SameInputs.trans {s t u : State} (h : SameInputs s t) (k : SameInputs t u) : SameInputs s u :=
  ⟨k.turns.trans h.turns, k.tick.trans h.tick⟩

theorem SameInputs.nextTurn_eq {s t : State} (h : SameInputs s t) : nextTurn t = nextTurn s := by
  simp only [nextTurn, h.turns, h.tick]

theorem takeTurn_turns (s : State) : (takeTurn s).turns = s.turns.tail := by
  unfold takeTurn
  split
  · next listed => rw [listed, List.tail_cons]
  · next unlisted => rw [unlisted, List.tail_nil]

theorem takeTurn_tick (s : State) : (takeTurn s).tick = if s.turns = [] then s.tick + 1 else s.tick := by
  unfold takeTurn
  split
  · next listed => rw [if_neg (by simp [listed])]
  · next unlisted => rw [if_pos unlisted]

theorem SameInputs.takeTurn {s t : State} (h : SameInputs s t) : SameInputs (takeTurn s) (takeTurn t) := by
  constructor
  · rw [takeTurn_turns, takeTurn_turns, h.turns]
  · rw [takeTurn_tick, takeTurn_tick, h.turns, h.tick]

theorem sameInputs_raise (s : State) (a : Agent) (code : FaultCode) (info : List Word) :
    SameInputs s (raise s a code info) :=
  ⟨raise_turns s a code info, raise_tick s a code info⟩

theorem sameInputs_issue {s t : State} (outcome : IssueOutcome s t) : SameInputs s t := by
  cases outcome <;> exact ⟨rfl, rfl⟩

theorem sameInputs_producer {s t : State} (outcome : ProducerOutcome s t) : SameInputs s t := by
  cases outcome with
  | rests | passes | commits => exact ⟨rfl, rfl⟩
  | emits head emit =>
    obtain ⟨-, -, rfl⟩ := emitCommand_ok emit
    exact ⟨rfl, rfl⟩
  | switches head guard switch =>
    obtain ⟨-, -, -, rfl⟩ := switchBuffer_ok switch
    exact ⟨rfl, rfl⟩
  | @issues op ops t empty host outcome =>
    obtain ⟨turns, tick⟩ := sameInputs_issue (s := { s with hostOps := ops }) outcome
    exact ⟨turns, tick⟩

theorem sameInputs_exec {s t : State} {i : Instr} (executed : exec i s = .next t) : SameInputs s t := by
  rw [exec_frame executed]
  exact ⟨rfl, rfl⟩

/-- A step takes its turn from the inputs and nothing else. -/
theorem sameInputs_step {s t : State} (next : step s = .next t) : SameInputs (takeTurn s) t := by
  cases step_outcome next with
  | powerOn => exact ⟨rfl, rfl⟩
  | raised a code info => exact sameInputs_raise _ a code info
  | producer outcome => exact sameInputs_producer outcome
  | idles => exact .refl _
  | consumer run fetched decoded executed => exact sameInputs_exec executed
  | rasterizer outcome => cases outcome <;> exact ⟨rfl, rfl⟩
  | fenceIrq outcome => cases outcome <;> exact ⟨rfl, rfl⟩

/-! ### The turns to come -/

theorem takeTurn_iterate_turns (n : Nat) (s : State) : (takeTurn^[n] s).turns = s.turns.drop n := by
  induction n generalizing s with
  | zero => rfl
  | succ n ih => rw [Function.iterate_succ_apply, ih, takeTurn_turns, List.drop_tail]

theorem takeTurn_iterate_tick (n : Nat) {s : State} (unlisted : s.turns = []) :
    (takeTurn^[n] s).tick = s.tick + n := by
  induction n with
  | zero => rfl
  | succ n ih =>
    have stillUnlisted : (takeTurn^[n] s).turns = [] := by rw [takeTurn_iterate_turns, unlisted, List.drop_nil]
    rw [Function.iterate_succ_apply', takeTurn_tick, if_pos stillUnlisted, ih, Nat.add_assoc]

/-- Past the listed turns the schedule names the agent. -/
theorem nextTurn_iterate_of_unlisted (n : Nat) {s : State} (unlisted : s.turns = []) :
    nextTurn (takeTurn^[n] s) = .agent (schedule (s.tick + n)) := by
  have stillUnlisted : (takeTurn^[n] s).turns = [] := by rw [takeTurn_iterate_turns, unlisted, List.drop_nil]
  simp only [nextTurn, stillUnlisted, takeTurn_iterate_tick n unlisted]

/-- Among the turns to come is one of every agent (R434, log 20). -/
theorem exists_turn_of_agent (s : State) (a : Agent) : ∃ n, nextTurn (takeTurn^[n] s) = .agent a := by
  have unlisted : (takeTurn^[s.turns.length] s).turns = [] := by rw [takeTurn_iterate_turns, List.drop_length]
  obtain ⟨k, later, scheduled⟩ := schedule_fair a (takeTurn^[s.turns.length] s).tick
  refine ⟨(k - (takeTurn^[s.turns.length] s).tick) + s.turns.length, ?_⟩
  rw [Function.iterate_add_apply, nextTurn_iterate_of_unlisted _ unlisted, Nat.add_sub_cancel' later, scheduled]

/-! ### Safe runs -/

/-- A safe run takes its next `n` turns, `u` being any state with the same inputs, unless a fault halts it first. -/
theorem safeRun_takes_turns (n : Nat) {s u : State} (h : RunInv s) (same : SameInputs u s) :
    ∃ m t, runFor m s = .next t ∧ (t.fault ≠ none ∨ SameInputs (takeTurn^[n] u) t) := by
  induction n generalizing s u with
  | zero => exact ⟨0, s, rfl, .inr same⟩
  | succ n ih =>
    by_cases running : s.fault = none
    · obtain ⟨v, next⟩ := safeRunNeverGetsStuck s h running
      obtain ⟨m, t, run, reached⟩ := ih (runInv_step h next) (same.takeTurn.trans (sameInputs_step next))
      refine ⟨m + 1, t, ?_, reached⟩
      simp only [runFor, next, run]
    · exact ⟨0, s, rfl, .inl running⟩

/-- Settles O59: a safe run takes the turns to come one by one, and among them is one of every agent. -/
theorem everyAgentTakesItsTurn : Obligations.EveryAgentTakesItsTurn := by
  intro s a h
  obtain ⟨n, turn⟩ := exists_turn_of_agent s a
  obtain ⟨m, t, run, reached⟩ := safeRun_takes_turns n h (.refl s)
  exact ⟨m, t, run, reached.imp_right fun same => same.nextTurn_eq.trans turn⟩

end Sys2Proof.Proofs
end

section
/-! Drained and quiescent blocks (70_reset_and_hazards.md R478, R479): a consumer that waits at the cursor leaves the
ring empty, and with nothing on the way to FENCE_IRQ every fence is serviced. -/
namespace Sys2Proof.Proofs

open Sys2Proof Sys2Proof.Machine

/-- R170: the ring holds nothing between the consumer's position and the cursor when the two are the same place. -/
theorem empty_at_cursor {s : State} {q : List Cmd} (ring : RingInv s q) (initialized : s.lc ≠ .uninit)
    (buffer : s.cbuf = s.active) (position : s.rpos = s.cursor) : q = [] := by
  have length := (ring.here initialized buffer).1
  exact flatWords_eq_nil.mp (List.length_eq_zero_iff.mp (by omega))

/-- R53: with no SYNC_FULL to come and no completion pending no fence is outstanding. -/
theorem fences_serviced {s : State} (fences : FenceInv s []) (delivered : s.rzQ = []) (serviced : s.irqPending = 0)
    (noEmit : emitsOf s.pq = []) : s.fenceQ = [] ∧ s.fenceDone = s.fenceIssued := by
  have entries := fences.entries
  rw [delivered, serviced, noEmit] at entries
  have nothing : s.fenceQ = [] := List.length_eq_zero_iff.mp entries
  have counters := fences.counters
  rw [nothing] at counters
  exact ⟨nothing, (counters.trans (BitVec.add_zero _)).symm⟩

/-- R478: an idle consumer and empty queues make a drained block, if no SWITCH is next and no reservation open. -/
theorem drained_of_idle {s : State} {q : List Cmd} (ring : RingInv s q) (initialized : s.lc ≠ .uninit)
    (noSwitch : s.pq.head? ≠ some .switch) (closed : s.resN = 0) (idle : s.cstate = .idle) (delivered : s.rzQ = [])
    (serviced : s.irqPending = 0) : drained s = true := by
  obtain ⟨noSignal, buffer, rfl⟩ := ring.idle initialized idle
  have pending := (ringInv_iff.mp ring).2.pending_of_head noSwitch
  have position : s.rpos = s.cursor := (ring.here initialized buffer).1
  exact drained_iff.mpr ⟨pending, closed, buffer, position, noSignal, idle, delivered, serviced⟩

/-- Settles O58: the ring and fence invariants at a drained block, and the ring invariant at a quiescent one. -/
theorem drainedMeansDone : Obligations.DrainedMeansDone := by
  refine ⟨fun s q ring fences initialized isDrained noEmit => ?_,
    fun s q ring initialized running isQuiescent closed => ?_⟩
  · obtain ⟨-, -, buffer, position, -, -, delivered, serviced⟩ := drained_iff.mp isDrained
    obtain rfl := empty_at_cursor ring initialized buffer position
    exact ⟨rfl, fences_serviced fences delivered serviced noEmit⟩
  · obtain ⟨empty, idle, delivered, serviced⟩ := (quiescent_iff running).mp isQuiescent
    exact drained_of_idle ring initialized (by simp [empty]) closed idle delivered serviced

end Sys2Proof.Proofs
end

section
/-! Every safe run ends (70_reset_and_hazards.md R463, R480). The work left in a state decreases with every step that is
not a stall; an agent stalls only while another has work it can do; and each agent has its turn again and again
(60_exceptions.md R434). -/
namespace Sys2Proof.Proofs

open Sys2Proof Sys2Proof.Machine

/-! ### The work left -/

/-- What PRODUCER has queued, each EMIT counted twice for the SWITCH it may leave in its place (40_ring_buffer.md
R160). -/
def queueWork (s : State) : Nat := (emitsOf s.pq).length + s.pq.length

/-- The words between the consumer's position and the cursor, by way of the JUMP when they are in different buffers
(40_ring_buffer.md R170). -/
def ringWork (s : State) : Nat :=
  if s.cbuf = s.active then s.cursor - s.rpos else s.params.cap + 1 - s.rpos + s.cursor

/-- What the consumer has to do before it idles: the ring, the signal, and the idling itself (43_consumer_dispatch.md
R262). -/
def consumerWork (s : State) : Nat := ringWork s + s.sig.toNat + (if s.cstate = .run then 1 else 0)

/-- The completions to come, each queued command counted twice for the one it may raise (60_exceptions.md R421). -/
def outputWork (s : State) : Nat := 2 * s.rzQ.length + s.irqPending

/-- The work left in a state, lexicographically: the operations to issue, what they queued, what the consumer has to
read, and what it has forwarded. -/
def work (s : State) : ℕ ×ₗ ℕ ×ₗ ℕ ×ₗ ℕ :=
  toLex (s.hostOps.length, toLex (queueWork s, toLex (consumerWork s, outputWork s)))

theorem work_takeTurn (s : State) : work (takeTurn s) = work s := by
  simp [work, queueWork, consumerWork, ringWork, outputWork]

section Decrease
variable {s t : State}

theorem work_lt_of_host (host : t.hostOps.length < s.hostOps.length) : work t < work s :=
  Prod.Lex.toLex_lt_toLex.mpr (.inl host)

theorem work_lt_of_queue (host : t.hostOps = s.hostOps) (queue : queueWork t < queueWork s) : work t < work s :=
  Prod.Lex.toLex_lt_toLex.mpr (.inr ⟨congrArg List.length host, Prod.Lex.toLex_lt_toLex.mpr (.inl queue)⟩)

theorem work_lt_of_consumer (host : t.hostOps = s.hostOps) (queue : t.pq = s.pq)
    (consumer : consumerWork t < consumerWork s) : work t < work s := by
  have same : queueWork t = queueWork s := by rw [queueWork, queueWork, queue]
  exact Prod.Lex.toLex_lt_toLex.mpr (.inr ⟨congrArg List.length host, Prod.Lex.toLex_lt_toLex.mpr
    (.inr ⟨same, Prod.Lex.toLex_lt_toLex.mpr (.inl consumer)⟩)⟩)

theorem work_lt_of_output (host : t.hostOps = s.hostOps) (queue : t.pq = s.pq)
    (consumer : consumerWork t = consumerWork s) (output : outputWork t < outputWork s) : work t < work s := by
  have same : queueWork t = queueWork s := by rw [queueWork, queueWork, queue]
  exact Prod.Lex.toLex_lt_toLex.mpr (.inr ⟨congrArg List.length host, Prod.Lex.toLex_lt_toLex.mpr
    (.inr ⟨same, Prod.Lex.toLex_lt_toLex.mpr (.inr ⟨consumer, output⟩)⟩)⟩)

end Decrease

/-! ### The stalls -/

/-- The agent has nothing it can do now: PRODUCER's next micro-step is stalled or nothing is left to issue, CONSUMER is
idle or may face a full RZ_Q (R277), RASTERIZER and FENCE_IRQ have an empty queue. -/
def Rests (s : State) : Agent → Prop
  | .producer => (∀ m rest, s.pq = m :: rest → microGuard s m = false) ∧ (s.pq = [] → s.hostOps = [])
  | .consumer => s.cstate = .idle ∨ s.rzQ ≠ []
  | .rasterizer => s.rzQ = []
  | .fenceIrq => s.irqPending = 0

theorem microGuard_takeTurn (s : State) (m : MicroStep) : microGuard (takeTurn s) m = microGuard s m := by
  cases m <;> simp [microGuard, drained_takeTurn]

theorem rests_takeTurn (s : State) (a : Agent) : Rests (takeTurn s) a ↔ Rests s a := by
  cases a <;> simp [Rests, microGuard_takeTurn]

/-- A step of an agent does work, raises a fault, or was a stall. -/
def WorksOrRests (s : State) (a : Agent) (t : State) : Prop :=
  t.fault ≠ none ∨ work t < work s ∨ t = s ∧ Rests s a

/-! ### PRODUCER -/

theorem issueOutcome_hostOps {s t : State} (outcome : IssueOutcome s t) : t.hostOps = s.hostOps := by
  cases outcome <;> rfl

theorem length_emitsOf_cons (m : MicroStep) (ms : List MicroStep) :
    (emitsOf ms).length ≤ (emitsOf (m :: ms)).length := by
  cases m with
  | emit => exact Nat.le_succ _
  | _ => exact Nat.le_refl _

/-- A micro-step whose guard is true leaves PQ, an EMIT with at most a SWITCH in its place. -/
theorem microStep_works {s t : State} {m : MicroStep} {rest : List MicroStep} (head : s.pq = m :: rest)
    (guard : microGuard s m = true) (h : microStep s m rest = .ok t) : work t < work s := by
  have popped (host : t.hostOps = s.hostOps) (pq : t.pq = rest) : work t < work s := by
    refine work_lt_of_queue host ?_
    have emits := length_emitsOf_cons m rest
    simp only [queueWork, head, pq, List.length_cons]
    omega
  cases m with
  | emit c clr use =>
    obtain ⟨-, -, rfl⟩ := emitCommand_ok h
    refine work_lt_of_queue rfl ?_
    simp only [queueWork, head, emitsOf]
    split <;> simp only [emitsOf, List.length_cons] <;> omega
  | switch =>
    rw [microStep, if_pos (of_decide_eq_true guard)] at h
    obtain ⟨-, -, -, rfl⟩ := switchBuffer_ok h
    exact popped rfl rfl
  | waitf k =>
    rw [microStep, if_pos (of_decide_eq_true guard)] at h
    cases h
    exact popped rfl rfl
  | drain =>
    have isDrained : drained s = true := guard
    rw [microStep, if_pos isDrained] at h
    cases h
    exact popped rfl rfl
  | closeCommit =>
    cases h
    exact work_lt_of_queue rfl (by simp [queueWork, head, closeCommit, State.resetWith, emitsOf])

theorem producerStep_works {s t : State} (h : producerStep s = .ok t) : WorksOrRests s .producer t := by
  unfold producerStep at h
  split at h
  · next m rest head =>
    cases guard : microGuard s m with
    | true => exact .inr (.inl (microStep_works head guard h))
    | false =>
      rw [microStep_stalls rest guard] at h
      refine .inr (.inr ⟨(Except.ok.inj h).symm, fun m' rest' head' => ?_, fun empty => ?_⟩)
      · rw [head] at head'
        cases head'
        exact guard
      · rw [head] at empty
        cases empty
  · next empty =>
    split at h
    · next noOps => exact .inr (.inr ⟨(Except.ok.inj h).symm, by simp [empty], fun _ => noOps⟩)
    · next op ops host =>
      have kept : t.hostOps = ops := issueOutcome_hostOps (issue_outcome h)
      exact .inr (.inl (work_lt_of_host (by simp [kept, host])))

/-! ### CONSUMER -/

/-- An empty RZ_Q has room for what any handler forwards (10_state.md R54, 43_consumer_dispatch.md R275). -/
theorem handlerOf_fits {s u : State} {id : Fin 16} {i : Instr} {out : List Cmd} (valid : s.params.valid = true)
    (h : handlerOf s id (encodeCmd i) (builtinAnswer s i) = .ok (out, u)) : out.length ≤ s.params.rzqCap := by
  have room : 1 ≤ s.params.rzqCap := by
    simp only [Params.valid, Bool.and_eq_true, decide_eq_true_eq] at valid
    omega
  obtain ⟨-, answer⟩ | ⟨-, answer⟩ := handlerOf_ok h
  · obtain ⟨rfl, -⟩ | ⟨-, ⟨-, -, rfl, -⟩ | ⟨-, -, rfl, -⟩⟩ := builtinAnswer_eq_some answer
    · exact room
    · exact Nat.zero_le _
    · exact room
  · obtain ⟨_, _, -, -, -, fits, -⟩ := clientHandler_ok answer
    exact fits

/-- A consumer that moves on by some words and is still before the cursor has fewer words to read. -/
theorem work_lt_of_advance {s t : State} {q : List Cmd} {n : Nat} (ring : RingInv t q) (initialized : t.lc ≠ .uninit)
    (moved : n ≠ 0) (bound : t.cursor ≤ t.params.cap)
    (frame : t = { s with
      rpos := s.rpos + n, curOvl := t.curOvl, lookup := t.lookup, omHi := t.omHi, omLo := t.omLo
      ovlState := t.ovlState, rzQ := t.rzQ }) : work t < work s := by
  have contents := (ringInv_iff.mp ring).1
  have inRing := rpos_le_cap contents initialized bound
  have here := contents.here initialized
  rw [frame] at here inRing
  refine work_lt_of_consumer (by rw [frame]) (by rw [frame]) ?_
  have shorter : ringWork t < ringWork s := by
    rw [frame]
    simp only [ringWork]
    simp only at here inRing
    split
    · next buffer =>
      have position := (here buffer).1
      omega
    · omega
  rw [frame] at shorter ⊢
  simpa [consumerWork] using shorter

/-- Every other command than the internal ones commits, faults, or stalls on a full RZ_Q (R260, R277). -/
theorem exec_external_works {s t : State} {q : List Cmd} {i : Instr} (inv : StateInv s) (running : s.fault = none)
    (external : selOf i.opcode ≠ 0) (ring : RingInv t q) (initialized : s.lc ≠ .uninit) (h : exec i s = .next t) :
    WorksOrRests s .consumer t := by
  rw [exec_eq_dispatch external] at h
  obtain ok | ⟨code, info, -, rfl⟩ := settle_next h
  · obtain ⟨id, n, out, u, extent, handled, commit⟩ := dispatch_ok ok
    obtain ⟨-, ⟨full, rfl⟩ | ⟨-, rfl⟩⟩ := commitCommand_ok commit
    · refine .inr (.inr ⟨rfl, .inr fun empty => ?_⟩)
      have fits := handlerOf_fits inv.params handled
      rw [empty, List.length_nil] at full
      omega
    · obtain ⟨-, -, moved, -⟩ := overlayExtent_ok extent
      have writes := (handlerOf_writes handled).1
      refine .inr (.inl (work_lt_of_advance ring ?_ moved ?_ ?_))
      · rw [writes]
        exact initialized
      · rw [writes]
        exact inv.cursor
      · rw [writes]
        rfl
  · exact .inl (by simp [raise_of_none running])

/-- The internal commands of the ring always do work (R262 to R264): a JUMP only leads to the active buffer. -/
theorem exec_internal_works {s t : State} {q q' : List Cmd} {i : Instr} (inv : StateInv s) (contents : RingContents s q)
    (run : s.cstate = .run) (command : Executable s i) (internal : selOf i.opcode = 0) (ring : RingInv t q')
    (h : exec i s = .next t) : work t < work s := by
  have initialized : s.lc ≠ .uninit := by rw [started_of_run contents run]; decide
  obtain ⟨ignored, rfl⟩ | ⟨ignored, rfl⟩ | ⟨target, rfl⟩ := internal_of_selOf internal
  · rw [exec_terminator] at h
    cases h
    split
    · next signal => exact work_lt_of_consumer rfl rfl (by simp [consumerWork, ringWork, signal])
    · exact work_lt_of_consumer rfl rfl (by simp [consumerWork, ringWork, run])
  · rw [exec_noop] at h
    cases h
    exact work_lt_of_advance ring initialized Nat.one_ne_zero inv.cursor rfl
  · have base := command.base target rfl
    have words : ringReads s s.cbuf s.rpos 1 = .ok [jumpWord s.params s.cbuf.other] := by
      rw [jumpWord, ← base]
      exact command.words
    have behind : s.cbuf ≠ s.active := fun here => ne_jumpWord_of_here contents initialized here _ words
    have ahead : s.cbuf.other = s.active := by rw [eq_other_of_ne behind, other_other]
    have inRing := le_cap_of_ringReads words
    rw [exec_jump_base base] at h
    cases h
    refine work_lt_of_consumer rfl rfl ?_
    simp only [consumerWork, ringWork, ahead, behind, if_true, if_false]
    omega

theorem consumerStep_works {s t : State} {q : List Cmd} (inv : StateInv s) (ring : RingInv s q)
    (running : s.fault = none) (next : consumerStep s = .next t) : WorksOrRests s .consumer t := by
  have contents := (ringInv_iff.mp ring).1
  cases state : s.cstate with
  | idle =>
    simp only [consumerStep, state] at next
    cases next
    exact .inr (.inr ⟨rfl, .inl state⟩)
  | run =>
    have initialized : s.lc ≠ .uninit := by rw [started_of_run contents state]; decide
    obtain ⟨q', ringT, -⟩ := ringInv_consumerStep inv ring next
    obtain ⟨i, command⟩ := executable_of_faces inv contents initialized (faces_of_run contents state)
    rw [consumerStep_eq_exec state command.wellFormed command.words command.fits] at next
    by_cases external : selOf i.opcode ≠ 0
    · exact exec_external_works inv running external ringT initialized next
    · exact .inr (.inl
        (exec_internal_works inv contents state command (Decidable.not_not.mp external) ringT next))

/-! ### RASTERIZER and FENCE_IRQ -/

theorem rasterizerStep_works {s t : State} (h : rasterizerStep s = .ok t) : WorksOrRests s .rasterizer t := by
  unfold rasterizerStep at h
  split at h
  · next empty => exact .inr (.inr ⟨(Except.ok.inj h).symm, empty⟩)
  · next c q head =>
    split at h
    · cases h
    · cases h
      refine .inr (.inl (work_lt_of_output rfl rfl rfl ?_))
      simp only [outputWork, head, List.length_cons]
      split <;> omega

theorem fenceStep_works {s t : State} (h : fenceStep s = .ok t) : WorksOrRests s .fenceIrq t := by
  unfold fenceStep at h
  split at h
  · next nothing => exact .inr (.inr ⟨(Except.ok.inj h).symm, nothing⟩)
  · next n pending =>
    split at h
    · cases h
    · cases h
      exact .inr (.inl (work_lt_of_output rfl rfl rfl (by simp [outputWork, pending])))

/-! ### The block -/

theorem settle_works {a : Agent} {s t : State} {r : Except Halt State} (running : s.fault = none)
    (works : r = .ok t → WorksOrRests s a t) (next : settle a s r = .next t) : WorksOrRests s a t := by
  obtain ok | ⟨code, info, -, rfl⟩ := settle_next next
  · exact works ok
  · exact .inl (by simp [raise_of_none running])

/-- One turn of an agent in a safe run: a fault, some work, or a stall that only takes the turn. -/
theorem step_works {s t : State} {a : Agent} (h : RunInv s) (turn : AgentTurn s a) (next : step s = .next t) :
    t.fault ≠ none ∨ work t < work s ∨ t = takeTurn s ∧ Rests s a := by
  obtain ⟨inv, q, ring, -⟩ := h
  have running : (takeTurn s).fault = none := by rw [takeTurn_fault, turn.2]
  rw [← work_takeTurn s, ← rests_takeTurn s]
  cases a with
  | producer => exact settle_works running producerStep_works (step_producer turn ▸ next)
  | consumer =>
    exact consumerStep_works (stateInv_takeTurn inv) (ringInv_takeTurn ring) running (step_consumer turn ▸ next)
  | rasterizer => exact settle_works running rasterizerStep_works (step_rasterizer turn ▸ next)
  | fenceIrq => exact settle_works running fenceStep_works (step_fenceIrq turn ▸ next)

/-! ### When all agents rest (R463) -/

/-- R480: a run has ended when a fault halts it, or no operation, micro-step, command or completion is left. -/
theorem runEnded_iff {s : State} : runEnded s = true ↔
    s.fault ≠ none ∨ (s.hostOps = [] ∧ s.pq = [] ∧ s.cstate = .idle ∧ s.rzQ = [] ∧ s.irqPending = 0) := by
  by_cases running : s.fault = none
  · simp [runEnded, running, quiescent_iff running]
  · simp [runEnded, running]

/-- No micro-step stalls behind an idle consumer and empty queues: SWITCH finds the consumer in the active buffer, WAITF
its fence serviced, DRAIN the block drained. -/
theorem microGuard_of_idle {s : State} {m : MicroStep} {rest : List MicroStep} (h : RunInv s)
    (head : s.pq = m :: rest) (idle : s.cstate = .idle) (delivered : s.rzQ = []) (serviced : s.irqPending = 0) :
    microGuard s m = true := by
  obtain ⟨inv, q, ring, fences⟩ := h
  have queued : s.pq ≠ [] := by simp [head]
  have initialized := initialized_of_pq inv queued
  obtain ⟨-, buffer, rfl⟩ := ring.idle initialized idle
  cases m with
  | emit | closeCommit => rfl
  | switch => exact decide_eq_true buffer
  | waitf k =>
    have last : rest = [] := by
      cases rest with
      | nil => rfl
      | cons m rest => exact absurd (by simp [head]) (fences.waitLast k)
    have done := (fences_serviced fences delivered serviced (by rw [head, last]; rfl)).2
    exact decide_eq_true (done.trans (fences.waiting k (by simp [head])).symm)
  | drain =>
    exact drained_of_idle ring initialized (by simp [head]) (resN_eq_zero_of_pq inv queued) idle delivered serviced

theorem runEnded_of_rests {s : State} (h : RunInv s) (rests : ∀ a, Rests s a) : runEnded s = true := by
  have delivered : s.rzQ = [] := rests .rasterizer
  have serviced : s.irqPending = 0 := rests .fenceIrq
  have idle : s.cstate = .idle := (rests .consumer).resolve_right (not_not_intro delivered)
  obtain ⟨stalled, nothingLeft⟩ := rests .producer
  have empty : s.pq = [] := by
    cases pq : s.pq with
    | nil => rfl
    | cons m rest =>
      have guard := microGuard_of_idle h pq idle delivered serviced
      rw [stalled m rest pq] at guard
      cases guard
  exact runEnded_iff.mpr (.inr ⟨nothingLeft empty, empty, idle, delivered, serviced⟩)

/-! ### The run (R480) -/

/-- What every step keeps, every run keeps. -/
theorem runFor_keeps {P : State → Prop} (keeps : ∀ {s t}, P s → step s = .next t → P t) {n : Nat} {s t : State}
    (h : P s) (run : runFor n s = .next t) : P t := by
  induction n generalizing s with
  | zero =>
    cases run
    exact h
  | succ n ih =>
    simp only [runFor] at run
    split at run
    · next next => exact ih (keeps h next) run
    · next halted => exact absurd run (halted t)

theorem runFor_one {s t : State} (next : step s = .next t) : runFor 1 s = .next t := by simp only [runFor, next]

/-- A state of a safe run past the listed turns, a power-on reset among them (70_reset_and_hazards.md R450). -/
def Scheduled (s : State) : Prop := RunInv s ∧ s.turns = []

theorem scheduled_step {s t : State} (h : Scheduled s) (next : step s = .next t) : Scheduled t := by
  obtain ⟨inv, unlisted⟩ := h
  exact ⟨runInv_step inv next, by rw [(sameInputs_step next).turns, takeTurn_turns, unlisted, List.tail_nil]⟩

/-- If the agent of the `n`-th turn to come has work it can do, some work is done by then. -/
theorem work_done_by_turn {a : Agent} {n : Nat} {s : State} (h : Scheduled s) (busy : ¬Rests s a)
    (turn : nextTurn (takeTurn^[n] s) = .agent a) :
    ∃ m t, runFor m s = .next t ∧ (t.fault ≠ none ∨ work t < work s) := by
  induction n generalizing s with
  | zero =>
    by_cases running : s.fault = none
    · obtain ⟨t, next⟩ := safeRunNeverGetsStuck s h.1 running
      obtain faulty | less | ⟨-, rests⟩ := step_works h.1 ⟨turn, running⟩ next
      · exact ⟨1, t, runFor_one next, .inl faulty⟩
      · exact ⟨1, t, runFor_one next, .inr less⟩
      · exact absurd rests busy
    · exact ⟨0, s, rfl, .inl running⟩
  | succ n ih =>
    by_cases running : s.fault = none
    · obtain ⟨t, next⟩ := safeRunNeverGetsStuck s h.1 running
      obtain faulty | less | ⟨rfl, -⟩ := step_works h.1 ⟨nextTurn_iterate_of_unlisted 0 h.2, running⟩ next
      · exact ⟨1, t, runFor_one next, .inl faulty⟩
      · exact ⟨1, t, runFor_one next, .inr less⟩
      · obtain ⟨m, u, run, done⟩ := ih (scheduled_step h next) (mt (rests_takeTurn s a).mp busy) turn
        rw [work_takeTurn] at done
        exact ⟨m + 1, u, by simp only [runFor, next, run], done⟩
    · exact ⟨0, s, rfl, .inl running⟩

/-- By the work left: while the run has not ended some agent does not rest, and by its turn there is less work. -/
theorem scheduled_run_ends (s : State) (h : Scheduled s) : ∃ n t, runFor n s = .next t ∧ runEnded t = true := by
  by_cases rests : ∀ a, Rests s a
  · exact ⟨0, s, rfl, runEnded_of_rests h.1 rests⟩
  · obtain ⟨a, busy⟩ := not_forall.mp rests
    obtain ⟨k, turn⟩ := exists_turn_of_agent s a
    obtain ⟨m, t, run, faulty | less⟩ := work_done_by_turn h busy turn
    · exact ⟨m, t, run, runEnded_iff.mpr (.inl faulty)⟩
    · obtain ⟨n, u, rest, ended⟩ := scheduled_run_ends t (runFor_keeps scheduled_step h run)
      exact ⟨m + n, u, (runFor_add run).trans rest, ended⟩
termination_by work s
decreasing_by exact less

theorem safeRun_ends {s : State} (h : RunInv s) : ∃ n t, runFor n s = .next t ∧ runEnded t = true := by
  obtain ⟨m, t, run, faulty | same⟩ := safeRun_takes_turns s.turns.length h (.refl s)
  · exact ⟨m, t, run, runEnded_iff.mpr (.inl faulty)⟩
  · have unlisted : t.turns = [] := by rw [same.turns, takeTurn_iterate_turns, List.drop_length]
    obtain ⟨n, u, rest, ended⟩ := scheduled_run_ends t ⟨runFor_keeps runInv_step h run, unlisted⟩
    exact ⟨m + n, u, (runFor_add run).trans rest, ended⟩

/-- R480: the result of a run is that of the first state in which it has ended. -/
theorem runToEnd_of_runFor {n : Nat} {s t : State} (run : runFor n s = .next t) (ended : runEnded t = true) :
    ∃ m u, runFor m s = .next u ∧ runEnded u = true ∧ runToEnd m s = some ⟨u.rzLog, u.cbLog, u.fault, u⟩ := by
  by_cases now : runEnded s = true
  · exact ⟨0, s, rfl, now, runResult_eq_some.mpr ⟨now, rfl⟩⟩
  · cases n with
    | zero =>
      cases run
      exact absurd ended now
    | succ n =>
      simp only [runFor] at run
      split at run
      · next v next =>
        obtain ⟨m, u, rest, endedU, result⟩ := runToEnd_of_runFor run ended
        have notYet : runResult s = none := if_neg now
        exact ⟨m + 1, u, by simp only [runFor, next, rest], endedU, by simp only [runToEnd, notYet, next, result]⟩
      · next halted => exact absurd run (halted t)

/-- After the end no agent has an enabled step, and nothing is left to issue (R480). -/
theorem step_of_runEnded {s : State} {a : Agent} (running : s.fault = none) (ended : runEnded s = true)
    (turn : nextTurn s = .agent a) : step s = .next (takeTurn s) := by
  obtain ⟨noOps, empty, idle, delivered, serviced⟩ := (runEnded_iff.mp ended).resolve_left (not_not_intro running)
  refine agentsStepOnlyAsGuardsAllow.2 s a ⟨turn, running⟩ ?_ fun _ => by simp [issuePending, noOps]
  cases a <;> simp [enabled, empty, idle, delivered, serviced]

/-- Settles O60: the run ends by its work and the fairness of the schedule, and its first end has R480's result. -/
theorem everyRunEnds : Obligations.EveryRunEnds := by
  refine ⟨fun s h => ?_, fun s a ended turn => ?_⟩
  · obtain ⟨_, _, run, ended⟩ := safeRun_ends h
    obtain ⟨n, t, first, endedT, result⟩ := runToEnd_of_runFor run ended
    exact ⟨n, t, first, runEnded_iff.mp endedT, result⟩
  · cases halted : s.fault with
    | some r => exact .inl ⟨r, rfl, step_halted turn halted⟩
    | none => exact .inr ⟨rfl, step_of_runEnded halted ended turn⟩

end Sys2Proof.Proofs
end

section
/-! Power-on reset and `init` (70_reset_and_hazards.md R450, R451): both leave the table of 10_state.md R60, `init` with
the built-in overlays registered and the two ring buffers cleared to terminators. -/
namespace Sys2Proof.Proofs

open Sys2Proof Sys2Proof.Machine

/-! ### Power-on reset (R450) -/

/-- Settles O50: State.reset and every power-on reset are `State.resetWith` of their parameters, whatever the inputs. -/
theorem powerOnResetsEveryElement : Obligations.PowerOnResetsEveryElement := by
  unfold Obligations.PowerOnResetsEveryElement
  intro atReset
  have resets (p : Params) (ops : List PortOp) (turns : List Turn) (tick : Nat) :
      atReset { State.resetWith p with hostOps := ops, turns := turns, tick := tick } := by
    simp [atReset, State.resetWith]
  refine ⟨resets defaultParams [] [] 0, fun s turn => ⟨_, step_powerOn turn, resets _ _ _ _, ?_⟩⟩
  exact takeTurn_params s

/-! ### `init` (R451) -/

/-- A ring buffer filled with terminators, the guard word included. -/
def terminated (s : State) (b : RingBuf) : State := written s b 0 (List.replicate (s.params.cap + 1) 0)

theorem ringRead_terminated {s : State} (valid : s.params.valid = true) (b : RingBuf) {i : Nat}
    (inRing : i ≤ s.params.cap) : ringRead (terminated s b) b i = .ok 0 := by
  have word : (List.replicate (s.params.cap + 1) (0 : Word))[i]? = some 0 := by
    simp [Nat.lt_succ_of_le inRing]
  have read := ringRead_written (s := s) (b := b) (i := 0) valid (by simp) word
  rwa [Nat.zero_add] at read

theorem ringRead_terminated_other {s : State} (valid : s.params.valid = true) (b : RingBuf) (i : Nat) :
    ringRead (terminated s b) b.other i = ringRead s b.other i :=
  ringRead_written_other valid (by simp) i

theorem ringWrite_terminated {s : State} (valid : s.params.valid = true) (b : RingBuf) :
    ringWrite s b 0 (List.replicate (s.params.cap + 1) 0) = .ok (terminated s b) := by
  cases write : ringWrite s b 0 (List.replicate (s.params.cap + 1) 0) with
  | error => exact absurd (ringWrite_error write valid) (by simp)
  | ok t => exact congrArg Except.ok (ringWrite_ok write).2.2

/-- Memory after `init` (R150): buffer 0 is cleared, then buffer 1. -/
def initMemory (s : State) : Memory := (terminated (terminated s .b0) .b1).mem

theorem doInit_eq {s : State} (valid : s.params.valid = true) : doInit s = .ok (initState s (initMemory s)) := by
  have clear1 : ringWrite (terminated s .b0) .b1 0 (List.replicate (s.params.cap + 1) 0)
      = .ok (terminated (terminated s .b0) .b1) := ringWrite_terminated (s := terminated s .b0) valid .b1
  simp only [doInit, ringWrite_terminated valid, clear1, initMemory]

/-- R451: every word of both buffers is a terminator. -/
theorem ringRead_initState {s : State} (valid : s.params.valid = true) (b : RingBuf) {i : Nat}
    (inRing : i ≤ s.params.cap) : ringRead (initState s (initMemory s)) b i = .ok 0 := by
  refine (ringRead_congr (s := terminated (terminated s .b0) .b1) rfl rfl b i).trans ?_
  cases b with
  | b0 =>
    exact (ringRead_terminated_other (s := terminated s .b0) valid .b1 i).trans (ringRead_terminated valid .b0 inRing)
  | b1 => exact ringRead_terminated (s := terminated s .b0) valid .b1 inRing

theorem initState_registered (s : State) (m : Memory) (id : Fin 16) :
    (initState s m).ovlValid[id] = decide (id < 2) := by
  show (((Vector.replicate 16 false).set 0 true).set 1 true)[id] = decide (id < 2)
  revert id
  decide

theorem initState_selectors (s : State) (m : Memory) (sel : Fin 16) :
    (initState s m).selMap[sel] = if sel = 0 then some 0 else if sel < 4 then some 1 else none := by
  show (((((Vector.replicate 16 none).set 0 (some 0)).set 1 (some 1)).set 2 (some 1)).set 3 (some 1) :
    Vector (Option (Fin 16)) 16)[sel] = if sel = 0 then some 0 else if sel < 4 then some 1 else none
  revert sel
  decide

/-- Settles O29: the step is `initState` on the cleared memory, whose elements the table of R451 lists. -/
theorem initLeavesStateReady : Obligations.InitLeavesStateReady := by
  intro s ops h uninit closed valid
  have validIssued : (issued s ops).params.valid = true := by rwa [issued_params]
  have admitted : admits s.lc .init = true := by rw [uninit]; rfl
  refine ⟨initState (issued s ops) (initMemory (issued s ops)), ?_, ?_⟩
  · rw [step_admitted h admitted (fun reserved => reserved.1 closed), perform, doInit_eq validIssued, settle_ok]
  · have words (b : RingBuf) (i : Nat) (inRing : i ≤ s.params.cap) :=
      ringRead_initState validIssued b (i := i) (by rwa [issued_params])
    have fault : (issued s ops).fault = none := (issued_fault s ops).trans h.1.2
    have params := issued_params s ops
    have stage := congrArg (fun p : Params => List.replicate p.maxCmd (none : Option Word)) params
    exact ⟨fault, rfl, rfl, rfl, rfl, rfl, stage, words, rfl, rfl, rfl, rfl, rfl, initState_registered _ _, rfl, rfl,
      initState_selectors _ _, resetWith_lookup (issued s ops).params, rfl, rfl, rfl, rfl, rfl, rfl, rfl, rfl, rfl, rfl,
      issued_rzLog s ops, issued_cbLog s ops, rfl, rfl, params⟩

end Sys2Proof.Proofs
end
